-- ==== Sys2Proof/Word.lean ====
section
/-! DEFINITION. The words the gate carries and the named values of Table 12-1 (spec/11_formats.md). -/
namespace Sys2Proof

/-- A byte, as packets, symbols and the serial memory carry it (12.1). -/
abbrev Byte := BitVec 8
/-- A word is 32 bits (00_scope.md 1.5). -/
abbrev Word := BitVec 32
/-- A 36-bit byte address of either address space (00_scope.md 1.5). -/
abbrev Address := BitVec 36

/-- The two link ports (00_scope.md 1.3). -/
inductive Port where
  | u
  | d
  deriving DecidableEq, Repr

/-- What a management write carries besides its word and its value: the requester that sends it, the
requester's own tag, and whether it is a CW (confirmed) or a PW (R127). -/
structure Access where
  requester : Fin 16
  tag : BitVec 8
  confirmed : Bool
  deriving DecidableEq, Repr

/-- Request kinds (Table 3-1). -/
inductive RequestKind where
  | rd
  | pw
  | cw
  deriving DecidableEq, Repr

/-- Upstream completion statuses (Table 4-4). -/
inductive Status where
  | ok
  | refused
  | paused
  | retry
  | targetError
  | timeout
  | linkDown
  | malformed
  | busy
  deriving DecidableEq, Repr

/-- The six notice causes (Table 8-3). -/
inductive Cause where
  | log
  | command
  | quiesced
  | channel0
  | channel1
  | link
  deriving DecidableEq, Repr

/-- Write modes of a region entry (Table 2-1). -/
inductive WriteMode where
  | posted
  | confirm
  deriving DecidableEq, Repr

/-- Run states of a region index (Table 2-4); OPEN is spelled `opened`. -/
inductive RunState where
  | opened
  | quiescing
  | quiesced
  deriving DecidableEq, Repr

/-- States of a requester record (Table 3-2); OPEN is spelled `opened`. -/
inductive RequesterState where
  | opened
  | fenced
  deriving DecidableEq, Repr

/-- Tag states (Table 4-2). -/
inductive TagState where
  | free
  | queued
  | waiting
  | expired
  | closing
  deriving DecidableEq, Repr

/-- Tag owners (Table 4-1). -/
inductive TagOwner where
  | requester
  | gate
  | channel
  deriving DecidableEq, Repr

/-- The kind a tag carries downstream (Table 4-1). -/
inductive TagKind where
  | rd
  | cw
  deriving DecidableEq, Repr

/-- Channel states (Table 6-4). -/
inductive ChannelState where
  | idle
  | fetch
  | run
  | drain
  | halted
  deriving DecidableEq, Repr

/-- Halt causes (Table 6-2). -/
inductive HaltCause where
  | none
  | stopped
  | refused
  | paused
  | targetError
  | timeout
  | linkDown
  | badDescriptor
  deriving DecidableEq, Repr

/-- What a channel read is for (05_move_channels.md 6.4). -/
inductive ReadPurpose where
  | fetch
  | copy
  | scan
  deriving DecidableEq, Repr

/-- Gate modes (R139). -/
inductive GateMode where
  | loading
  | safe
  | normal
  deriving DecidableEq, Repr

/-- Phases of a commit (Table 9-2). -/
inductive Phase where
  | validate
  | drain
  deriving DecidableEq, Repr

/-- Command results (Table 9-2). -/
inductive Result where
  | done
  | invalid
  | cancelled
  | state
  | denied
  | range
  | empty
  | nothing
  deriving DecidableEq, Repr

/-- Validation causes (R15). -/
inductive ValidationCause where
  | countZero
  | upWrap
  | downWrap
  | aperture
  | overlap
  deriving DecidableEq, Repr

/-- States of a port (Table 10-2). DOWN is held only while the reset pin is (log entry 6). -/
inductive PortState where
  | down
  | init
  | up
  deriving DecidableEq, Repr

/-- The three candidate places of the issue arbiter (Table 5-2). -/
inductive Candidate where
  | queue
  | channel0
  | channel1
  deriving DecidableEq, Repr

/-- The writer a digest record names (Table 7-1). -/
inductive Writer where
  | requester (q : Fin 16)
  | channel (c : Fin 2)
  deriving DecidableEq, Repr

/-- The nineteen fault kinds (Table 8-1). -/
inductive FaultKind where
  | malformed
  | fenced
  | mgmtDenied
  | mgmtBusy
  | mgmtLockout
  | noRegion
  | span
  | permission
  | paused
  | linkDown
  | targetError
  | timeout
  | lateCompletion
  | orphanCompletion
  | unexpectedPacket
  | fenceFlush
  | linkReset
  | channelHalt
  | image
  deriving DecidableEq, Repr

/-- Causes of a port reset (R147), the detail of a LINK_RESET record. -/
inductive ResetCause where
  | peerReset
  | retryExhausted
  | protocol
  | command
  deriving DecidableEq, Repr

/-- Outcomes of a failed image load (R168), the detail of an IMAGE record. -/
inductive ImageCause where
  | absent
  | format
  | sum
  | validation (cause : ValidationCause)
  deriving DecidableEq, Repr

/-- The detail of a fault record, read by kind (Table 8-2). -/
inductive Detail where
  | entries (n : Nat)
  | reset (cause : ResetCause)
  | halt (cause : HaltCause)
  | image (cause : ImageCause) (other : Option (Fin 64))
  deriving DecidableEq, Repr

end Sys2Proof
end

