-- ==== Sys2Proof/Syntax.lean ====
section
/-! DEFINITION. The commands: one constructor per row of spec/opcode_table.json. -/
namespace Sys2Proof

/-- The steps of the part, each whole and indivisible (95_what_each_step_holds.md). The value byte of a symbol
row is the symbol's second byte (Table 12-4). A management row carries the access that brings it (R127); a
command row also carries the 16-bit operand of the command word. -/
inductive Instr where
  /-- RESET_ASSERT (R163). -/
  | resetAssert
  /-- RESET_RELEASE (R163). -/
  | resetRelease
  /-- IMAGE_WORD (R164): the four bytes in the order received. -/
  | imageWord (b0 b1 b2 b3 : Byte)
  /-- VALIDATION_END (R16). -/
  | validationEnd
  /-- LINK_UNIT_RECEIVE (R148): the bytes of the unit as the physical coding hands them over. -/
  | linkUnitReceive (p : Port) (bytes : List Byte)
  /-- INIT_RECEIVE (R144, R145). -/
  | initReceive (p : Port) (value : Byte)
  /-- ACK_RECEIVE (R154). -/
  | ackReceive (p : Port) (value : Byte)
  /-- RETRY_RECEIVE (R155). -/
  | retryReceive (p : Port) (value : Byte)
  /-- CREDIT_RECEIVE (R157). -/
  | creditReceive (p : Port) (value : Byte)
  /-- RESET_RECEIVE (R147). -/
  | resetReceive (p : Port) (value : Byte)
  /-- BAD_SYMBOL (R143): the three bytes of the symbol. -/
  | badSymbol (p : Port) (kind value check : Byte)
  /-- INIT_RESEND (R144). -/
  | initResend (p : Port)
  /-- ACKNOWLEDGEMENT_TIMER (R156). -/
  | acknowledgementTimer (p : Port)
  /-- RESEND (R156). -/
  | resend (p : Port)
  /-- ACK_SEND (R149). -/
  | ackSend (p : Port)
  /-- CREDIT_SEND (R158). -/
  | creditSend (p : Port)
  /-- REPLY_SEND (R161). -/
  | replySend
  /-- GRANT (R80). -/
  | grant
  /-- ADMISSION_EVALUATE (R37). -/
  | admissionEvaluate
  /-- COMPLETION_TAKE (R58). -/
  | completionTake
  /-- TAG_EXPIRY (R63). -/
  | tagExpiry (t : Fin 48)
  /-- REQUESTER_EXPIRY (R64). -/
  | requesterExpiry (t : Fin 48)
  /-- RECLAIM (R66). -/
  | reclaim (t : Fin 48)
  /-- CLOSING_ANSWER (R69). -/
  | closingAnswer
  /-- CHANNEL_TAG_TAKE (R94). -/
  | channelTagTake (c : Fin 2)
  /-- NOTICE_PLACE (R121). -/
  | noticePlace
  /-- COMMIT (R134). -/
  | commit (a : Access) (operand : BitVec 16)
  /-- CANCEL (R135). -/
  | cancel (a : Access) (operand : BitVec 16)
  /-- REVERT (R20). -/
  | revert (a : Access) (operand : BitVec 16)
  /-- QUIESCE r (R22). -/
  | quiesce (a : Access) (operand : BitVec 16)
  /-- RESUME r (R24). -/
  | resume (a : Access) (operand : BitVec 16)
  /-- DIGEST_CLEAR r (R110). -/
  | digestClear (a : Access) (operand : BitVec 16)
  /-- FENCE q (R47). -/
  | fence (a : Access) (operand : BitVec 16)
  /-- UNFENCE q (R48). -/
  | unfence (a : Access) (operand : BitVec 16)
  /-- LOG_POP (R117). -/
  | logPop (a : Access) (operand : BitVec 16)
  /-- LOG_CLEAR (R118). -/
  | logClear (a : Access) (operand : BitVec 16)
  /-- NOTICE_ARM (R123). -/
  | noticeArm (a : Access) (operand : BitVec 16)
  /-- NOTICE_ACK s (R124). -/
  | noticeAck (a : Access) (operand : BitVec 16)
  /-- CHANNEL_START c (R89). -/
  | channelStart (a : Access) (operand : BitVec 16)
  /-- CHANNEL_STOP c (R102). -/
  | channelStop (a : Access) (operand : BitVec 16)
  /-- CHANNEL_RESUME c (R103). -/
  | channelResume (a : Access) (operand : BitVec 16)
  /-- LINK_RETRAIN p (R136). -/
  | linkRetrain (a : Access) (operand : BitVec 16)
  /-- COUNTERS_CLEAR (R137). -/
  | countersClear (a : Access) (operand : BitVec 16)
  /-- RESTART (R138). -/
  | restart (a : Access) (operand : BitVec 16)
  /-- A command word whose code is none of Table 12-2 (R133). -/
  | unknownCommand (a : Access) (code : Byte) (operand : BitVec 16)
  /-- STAGING_WRITE (R2): word w of staging entry r. -/
  | stagingWrite (a : Access) (r : Fin 64) (w : Fin 4) (value : Word)
  /-- REQUESTER_RECORD_WRITE (R33): word 0 of requester record q. -/
  | requesterRecordWrite (a : Access) (q : Fin 16) (value : Word)
  /-- REPLY_TIMEOUT_WRITE (R55). -/
  | replyTimeoutWrite (a : Access) (value : Word)
  /-- NOTICE_CONFIGURATION_WRITE (R120). -/
  | noticeConfigurationWrite (a : Access) (value : Word)
  /-- CHANNEL_CONFIGURATION_WRITE (R86): word w of the configuration of channel c. -/
  | channelConfigurationWrite (a : Access) (c : Fin 2) (w : Fin 3) (value : Word)
  /-- READ_ONLY_WRITE (R128): a write to the word at aperture offset 4 × `word`. -/
  | readOnlyWrite (a : Access) (word : BitVec 14) (value : Word)
  deriving DecidableEq, Repr

end Sys2Proof
end

