-- ==== Sys2Proof/Config.lean ====
section
/-! DEFINITION. The fixed capacities and times of the part (Table 1-4 and the rules named), and the one value that the
spec leaves open. -/
namespace Sys2Proof.Config

/-- Slots of the issue queue (R45, R73). -/
abbrev issueSlots : Nat := 32
/-- Slots of the reply queue (R45, R160). -/
abbrev replySlots : Nat := 32
/-- Slots of an inbound buffer, the credit a port advertises and the U port's late grant (R144, R158). -/
abbrev inboundSlots : Nat := 16
/-- Packets a replay store holds (R153). -/
abbrev replaySlots : Nat := 16
/-- Records the fault log holds (R114). -/
abbrev logSlots : Nat := 32
/-- The bound at which the lost count and a repeat count saturate (R114, Table 8-2). -/
abbrev saturation : Nat := 65535
/-- Tags one move channel may hold (R94). -/
abbrev channelTags : Nat := 4
/-- Words of a channel's data buffer (R95). -/
abbrev channelBuffer : Nat := 64
/-- Words of one chunk (R92). -/
abbrev chunkWords : Nat := 16
/-- The most credit one INIT can advertise (R143, R157). -/
abbrev creditMost : Nat := 64
/-- Replays without progress after which the next one resets the port (R156). -/
abbrev retryRunEnd : Nat := 5
/-- Acknowledgement timer, in microseconds (R153). -/
abbrev ackTime : BitVec 32 := 64#32
/-- Time between two INITs, in microseconds (R144). -/
abbrev initTime : BitVec 32 := 10#32
/-- The least reply timeout (R55). -/
abbrev timeoutLeast : BitVec 16 := 16#16
/-- The reply timeout after reset (R55). -/
abbrev timeoutReset : BitVec 16 := 2000#16
/-- The greatest page count that a written value is taken as (R172). -/
abbrev pageCountMost : BitVec 25 := 16777216#25
/-- The first page of the management aperture (00_scope.md 1.5). -/
abbrev aperturePage : Nat := 0xFFFFF0
/-- The byte address of the management aperture (00_scope.md 1.5). -/
abbrev apertureBase : Nat := 0xFFFFF0000
/-- One more than the highest page number (00_scope.md 1.5). -/
abbrev pages : Nat := 0x1000000
/-- Bytes of a page (00_scope.md 1.5). -/
abbrev pageBytes : Nat := 4096
/-- Signature, word 0 of a configuration image (Table 11-2). -/
abbrev imageSignature : BitVec 32 := 0x485A3640#32

/-- A free value: the halt address of a channel request whose address lies past the top of the upstream space, which
the 36 bits of the field cannot hold (R88, R93, Table 6-2; log entry 27). -/
opaque haltAddressBeyond : Nat → BitVec 36

end Sys2Proof.Config
end

