-- ==== Sys2Proof/Machine/Formats.lean ====
section
/-! DEFINITION. Check codes, byte order, symbols, link units, packet words, command codes and the aperture map:
the layouts of spec/11_formats.md that do not read the gate's state. -/
namespace Sys2Proof.Machine

/-! ### Check codes (R142, R143, R171) -/

/-- The bits of a byte, most significant first (R171). -/
def byteBits (b : Byte) : List Bool :=
  [b.getLsbD 7, b.getLsbD 6, b.getLsbD 5, b.getLsbD 4, b.getLsbD 3, b.getLsbD 2, b.getLsbD 1, b.getLsbD 0]

/-- One bit into the register of generator x^16 + x^12 + x^5 + 1, shifted toward its high end (R142, R171). -/
def crc16Bit (register : BitVec 16) (b : Bool) : BitVec 16 :=
  if register.msb != b then (register <<< 1) ^^^ 0x1021#16 else register <<< 1

/-- The check code of a link unit over its bytes, from FFFFh and with no final inversion (R142). -/
def crc16 (bytes : List Byte) : BitVec 16 :=
  (bytes.flatMap byteBits).foldl crc16Bit 0xFFFF#16

/-- One bit into the register of generator x^8 + x^2 + x + 1 (R143, R171). -/
def crc8Bit (register : BitVec 8) (b : Bool) : BitVec 8 :=
  if register.msb != b then (register <<< 1) ^^^ 0x07#8 else register <<< 1

/-- The check byte of a symbol over its type and value, from 00h (R143). -/
def crc8 (kind value : Byte) : BitVec 8 :=
  (byteBits kind ++ byteBits value).foldl crc8Bit 0x00#8

/-! ### Byte order (12.1, R164) -/

/-- The bytes of a word, least significant first (12.1). -/
def wordBytes (w : Word) : List Byte :=
  [w.extractLsb' 0 8, w.extractLsb' 8 8, w.extractLsb' 16 8, w.extractLsb' 24 8]

/-- The word of four bytes, the first in bits 7 to 0 (12.1, R164). -/
def bytesWord (b0 b1 b2 b3 : Byte) : Word :=
  (b3 ++ b2 ++ b1 ++ b0 : BitVec 32)

/-- The words of a run of bytes; bytes that do not fill a word are left out (R171 refuses such a unit). -/
def bytesWords : List Byte → List Word
  | b0 :: b1 :: b2 :: b3 :: rest => bytesWord b0 b1 b2 b3 :: bytesWords rest
  | _ => []

/-! ### Bit fields -/

/-- The number `x` as a field of `width` bits from bit `low` on. -/
def field (x low width : Nat) : Word := BitVec.ofNat 32 ((x % 2 ^ width) <<< low)

/-- A flag at bit `low`. -/
def flag (b : Bool) (low : Nat) : Word := if b then field 1 low 1 else 0#32

/-- The `width` bits of `w` from bit `low` on, as a number. -/
def bits (w : Word) (low width : Nat) : Nat := (w.toNat >>> low) % 2 ^ width

/-- A number below 16 from a 4-bit field. -/
def requesterOf (x : BitVec 4) : Fin 16 := ⟨x.toNat, x.isLt⟩

/-- The low 32 bits of an address, as the aperture shows them. -/
def addressLow (a : Address) : Word := a.extractLsb' 0 32

/-- Bits 35 to 32 of an address, as the aperture shows them. -/
def addressHigh (a : Address) : Word := (a.extractLsb' 32 4).setWidth 32

/-! ### Symbols (R143, Tables 12-1 and 12-4) -/

/-- Type byte of INIT. -/
def initKind : Byte := 1#8
/-- Type byte of ACK. -/
def ackKind : Byte := 2#8
/-- Type byte of RETRY. -/
def retryKind : Byte := 3#8
/-- Type byte of CREDIT. -/
def creditKind : Byte := 4#8
/-- Type byte of RESET. -/
def resetKind : Byte := 5#8

/-- A symbol is bad when its check is wrong or its type is none of the five (R143). -/
def symbolIsBad (kind value check : Byte) : Bool :=
  check != crc8 kind value || !(kind ∈ [initKind, ackKind, retryKind, creditKind, resetKind])

/-- Value byte of INIT: credit count in bits 6 to 0, answer mark in bit 7 (Table 12-4). -/
def initValue (credit : Nat) (mark : Bool) : Byte :=
  BitVec.ofNat 8 (credit % 128 + if mark then 128 else 0)

/-- The credit count of a received INIT, above 64 taken as 64 (R143). -/
def initCredit (value : Byte) : Nat := min (value.toNat % 128) Config.creditMost

/-- The answer mark of a received INIT. -/
def initMark (value : Byte) : Bool := value.getLsbD 7

/-- The sequence number of an ACK or RETRY; bit 7 is ignored (Table 12-4). -/
def symbolSeq (value : Byte) : BitVec 7 := value.extractLsb' 0 7

/-- Value byte of ACK and RETRY. Table 12-4 has bit 7 ignored; that it is sent as 0 is the model's choice (log entry 33). -/
def seqValue (n : BitVec 7) : Byte := n.setWidth 8

/-- The count of a CREDIT, carried as the count less one in bits 3 to 0 (R143, Table 12-4). -/
def creditCount (value : Byte) : Nat := value.toNat % 16 + 1

/-- Value byte of CREDIT(k), k from 1 to 16. Table 12-4 has bits 7 to 4 ignored; that they are sent as 0 is the model's
choice (log entry 33). -/
def creditValue (k : Nat) : Byte := BitVec.ofNat 8 ((k - 1) % 16)

/-! ### Link units (R142, R171) -/

/-- A link unit as a port sends and stores it: sequence number, packet, check code (R142). -/
structure LinkUnit where
  seq : BitVec 7
  packet : List Word
  code : BitVec 16
  deriving DecidableEq, Repr

/-- The bytes that the check code covers: the sequence byte, then the packet's bytes (R171). -/
def coveredBytes (seqByte : Byte) (packet : List Word) : List Byte :=
  seqByte :: packet.flatMap wordBytes

/-- A packet wrapped with its sequence number and check code (R142, R153). -/
def wrapUnit (seq : BitVec 7) (packet : List Word) : LinkUnit :=
  { seq := seq, packet := packet, code := crc16 (coveredBytes (seq.setWidth 8) packet) }

/-- The bytes of a unit on the link: the code's bits 15 to 8 go first (R171). -/
def unitBytes (l : LinkUnit) : List Byte :=
  coveredBytes (l.seq.setWidth 8) l.packet ++ [l.code.extractLsb' 8 8, l.code.extractLsb' 0 8]

/-- Whether a unit's length is allowed: 7 to 75 bytes in steps of 4 (R171). -/
def unitLengthOk (n : Nat) : Bool := 7 ≤ n && n ≤ 75 && n % 4 == 3

/-- The sequence number and the packet of a good unit; none for a bad unit (R142, R171). Bit 7 of the sequence
byte is covered by the code and ignored in the number. -/
def readUnit (bytes : List Byte) : Option (BitVec 7 × List Word) :=
  match bytes with
  | [] => none
  | seqByte :: rest =>
    let body := rest.take (rest.length - 2)
    match rest.drop (rest.length - 2) with
    | [high, low] =>
      if unitLengthOk bytes.length && crc16 (seqByte :: body) == (high ++ low : BitVec 16) then
        some (seqByte.extractLsb' 0 7, bytesWords body)
      else none
    | _ => none

/-! ### Packets (Table 12-5, R171) -/

/-- Packet types (Table 12-1). -/
def packetType (packet : List Word) : Nat :=
  match packet with
  | [] => 3
  | w :: _ => bits w 0 2

/-- A request packet as read. `address` is absent when the packet carries only word 0 (R171). -/
structure Request where
  kindCode : Nat
  requester : Fin 16
  tag : BitVec 8
  wordCount : Nat
  firstEnables : BitVec 4
  lastEnables : BitVec 4
  address : Option Address
  data : List Word
  deriving DecidableEq, Repr

/-- Reading a request's header and data (Table 12-5, R171). -/
def readRequest (packet : List Word) : Request :=
  let w := packet.headD 0#32
  { kindCode := bits w 2 3
    requester := requesterOf (w.extractLsb' 5 4)
    tag := w.extractLsb' 9 8
    wordCount := bits w 17 5
    firstEnables := w.extractLsb' 22 4
    lastEnables := w.extractLsb' 26 4
    address :=
      match packet with
      | _ :: low :: _ => some (w.extractLsb' 30 2 ++ low ++ 0#2 : BitVec 36)
      | _ => none
    data := packet.drop 2 }

/-- The kind a code names, where it names one (Table 12-1). -/
def requestKind (code : Nat) : Option RequestKind :=
  match code with
  | 0 => some .rd
  | 1 => some .pw
  | 2 => some .cw
  | _ => none

/-- The code of a kind (Table 12-1). -/
def kindCode : RequestKind → Nat
  | .rd => 0
  | .pw => 1
  | .cw => 2

/-- The words of a request packet the gate sends (Table 12-5). -/
def writeRequest (kind : RequestKind) (requester : Fin 16) (tag : Nat) (address : Address) (wordCount : Nat)
    (firstEnables lastEnables : BitVec 4) (data : List Word) : List Word :=
  (field 0 0 2 ||| field (kindCode kind) 2 3 ||| field requester.val 5 4 ||| field tag 9 8 |||
    field wordCount 17 5 ||| field firstEnables.toNat 22 4 ||| field lastEnables.toNat 26 4 |||
    field (address.toNat >>> 34) 30 2) :: address.extractLsb' 2 32 :: data

/-- A downstream completion packet as read (Table 12-5). The requester field is not used (R57). -/
structure Completion where
  tag : Nat
  statusCode : Nat
  data : List Word
  deriving DecidableEq, Repr

/-- Reading a completion (Table 12-5, R171): its data is every word after word 0. -/
def readCompletion (packet : List Word) : Completion :=
  let w := packet.headD 0#32
  { tag := bits w 9 8, statusCode := bits w 17 4, data := packet.drop 1 }

/-- The code of an upstream completion status (Table 12-1). -/
def statusCode : Status → Nat
  | .ok => 0
  | .refused => 1
  | .paused => 2
  | .retry => 3
  | .targetError => 4
  | .timeout => 5
  | .linkDown => 6
  | .malformed => 7
  | .busy => 8

/-- An upstream packet of the reply queue: a completion (Table 4-3) or a notice (R122). -/
inductive Reply where
  | completion (requester : Fin 16) (tag : BitVec 8) (status : Status) (data : List Word)
  | notice (requester : Fin 16) (causes : BitVec 6) (timestamp : Word)
  deriving DecidableEq, Repr

/-- The words of an upstream packet (Table 12-5). -/
def writeReply : Reply → List Word
  | .completion requester tag status data =>
    (field 1 0 2 ||| field requester.val 5 4 ||| field tag.toNat 9 8 ||| field (statusCode status) 17 4) :: data
  | .notice requester causes timestamp =>
    [field 2 0 2 ||| field requester.val 5 4 ||| field causes.toNat 9 6, timestamp]

/-! ### Byte lanes (R107) -/

/-- The bits of a word's enabled lanes, the others zero (R107). -/
def maskLanes (enables : BitVec 4) (w : Word) : Word :=
  w &&& ((if enables.getLsbD 0 then 0x000000FF#32 else 0#32) ||| (if enables.getLsbD 1 then 0x0000FF00#32 else 0#32)
    ||| (if enables.getLsbD 2 then 0x00FF0000#32 else 0#32) ||| (if enables.getLsbD 3 then 0xFF000000#32 else 0#32))

/-- The sum of the words after the first: the last is masked, those between are whole (R107). -/
def sumAfterFirst (last : BitVec 4) : List Word → Word
  | [] => 0#32
  | [w] => maskLanes last w
  | w :: w' :: rest => w + sumAfterFirst last (w' :: rest)

/-- The sum, modulo 2^32, of a write's words with disabled lanes as zero (R107). -/
def maskedSum (first last : BitVec 4) : List Word → Word
  | [] => 0#32
  | w :: rest => maskLanes first w + sumAfterFirst last rest

/-! ### Command codes (Table 12-2) -/

/-- The commands of Table 9-3. -/
inductive Command where
  | commit
  | cancel
  | revert
  | quiesce
  | resume
  | digestClear
  | fence
  | unfence
  | logPop
  | logClear
  | noticeArm
  | noticeAck
  | channelStart
  | channelStop
  | channelResume
  | linkRetrain
  | countersClear
  | restart
  deriving DecidableEq, Repr

/-- Code of a command (Table 12-2). -/
def commandCode : Command → Byte
  | .commit => 0x01#8
  | .cancel => 0x02#8
  | .revert => 0x03#8
  | .quiesce => 0x10#8
  | .resume => 0x11#8
  | .digestClear => 0x12#8
  | .fence => 0x20#8
  | .unfence => 0x21#8
  | .logPop => 0x30#8
  | .logClear => 0x31#8
  | .noticeArm => 0x38#8
  | .noticeAck => 0x39#8
  | .channelStart => 0x40#8
  | .channelStop => 0x41#8
  | .channelResume => 0x42#8
  | .linkRetrain => 0x50#8
  | .countersClear => 0x60#8
  | .restart => 0x7F#8

/-- The commands in the order of Table 9-3. -/
def commands : List Command :=
  [.commit, .cancel, .revert, .quiesce, .resume, .digestClear, .fence, .unfence, .logPop, .logClear, .noticeArm,
    .noticeAck, .channelStart, .channelStop, .channelResume, .linkRetrain, .countersClear, .restart]

/-- The command a code names, none for an unknown code (R133). -/
def commandOf (code : Byte) : Option Command := commands.find? (fun c => commandCode c == code)

/-! ### The aperture map (Table 12-6) -/

/-- A word of the management aperture, by window. -/
inductive ApertureWord where
  | command
  | commandStatus (w : Fin 3)
  | gateMode
  | replyTimeout
  | noticeConfiguration
  | noticeState
  | logCount
  | lostCount
  | logHead (w : Fin 6)
  | requester (q : Fin 16) (w : Fin 5)
  | generation
  | currentTotal
  | previousTotal
  | regionStatus (r : Fin 64)
  | digest (r : Fin 64) (w : Fin 3)
  | staging (r : Fin 64) (w : Fin 4)
  | active (r : Fin 64) (w : Fin 4)
  | freeTagCount
  | tag (t : Fin 48) (w : Fin 3)
  | channelConfiguration (c : Fin 2) (w : Fin 3)
  | channelStatus (c : Fin 2) (w : Fin 10)
  | channelDescriptor (c : Fin 2) (w : Fin 8)
  | portStatus (p : Port) (w : Fin 15)
  | unused
  deriving DecidableEq, Repr

/-- Word `w` of record `i` of a window whose records stand `stride` bytes apart, where both exist. -/
def recordWord {α : Type} (n words stride distance : Nat) (make : Fin n → Fin words → α) (other : α) : α :=
  if h : distance / stride < n ∧ distance % stride / 4 < words then
    make ⟨distance / stride, h.1⟩ ⟨distance % stride / 4, h.2⟩
  else other

/-- The word at an aperture offset that is a multiple of 4 (Table 12-6). -/
def apertureWord (offset : Nat) : ApertureWord :=
  if offset < 0x0100 then
    match offset with
    | 0x00 => .command
    | 0x04 => .commandStatus 0
    | 0x08 => .commandStatus 1
    | 0x0C => .commandStatus 2
    | 0x20 => .gateMode
    | 0x30 => .replyTimeout
    | 0x40 => .noticeConfiguration
    | 0x44 => .noticeState
    | 0x80 => .logCount
    | 0x84 => .lostCount
    | 0x88 => .logHead 0
    | 0x8C => .logHead 1
    | 0x90 => .logHead 2
    | 0x94 => .logHead 3
    | 0x98 => .logHead 4
    | 0x9C => .logHead 5
    | _ => .unused
  else if offset < 0x0400 then recordWord 16 5 0x20 (offset - 0x0100) .requester .unused
  else if offset = 0x0400 then .generation
  else if offset = 0x0404 then .currentTotal
  else if offset = 0x0408 then .previousTotal
  else if offset < 0x0500 then .unused
  else if offset < 0x0800 then recordWord 64 1 4 (offset - 0x0500) (fun r _ => .regionStatus r) .unused
  else if offset < 0x1000 then recordWord 64 3 0x10 (offset - 0x0800) .digest .unused
  else if offset < 0x1800 then recordWord 64 4 0x10 (offset - 0x1000) .staging .unused
  else if offset < 0x2000 then recordWord 64 4 0x10 (offset - 0x1800) .active .unused
  else if offset = 0x2000 then .freeTagCount
  else if offset < 0x2100 then .unused
  else if offset < 0x3000 then recordWord 48 3 0x10 (offset - 0x2100) .tag .unused
  else if offset < 0x3100 then recordWord 2 3 0x40 (offset - 0x3000) .channelConfiguration .unused
  else if offset < 0x4000 then
    recordWord 2 24 0x80 (offset - 0x3100)
      (fun c w =>
        if h : w.val < 10 then .channelStatus c ⟨w.val, h⟩
        else if h : 16 ≤ w.val then .channelDescriptor c ⟨w.val - 16, by omega⟩
        else .unused) .unused
  else if offset < 0x4100 then recordWord 1 15 0x100 (offset - 0x4000) (fun _ w => .portStatus .u w) .unused
  else if offset < 0x4200 then recordWord 1 15 0x100 (offset - 0x4100) (fun _ w => .portStatus .d w) .unused
  else .unused

/-- Whether a word is writable (Tables 9-1 and 12-6). -/
def apertureWritable : ApertureWord → Bool
  | .command => true
  | .replyTimeout => true
  | .noticeConfiguration => true
  | .requester _ w => w.val == 0
  | .staging _ _ => true
  | .channelConfiguration _ _ => true
  | .commandStatus _ => false
  | .gateMode => false
  | .noticeState => false
  | .logCount => false
  | .lostCount => false
  | .logHead _ => false
  | .generation => false
  | .currentTotal => false
  | .previousTotal => false
  | .regionStatus _ => false
  | .digest _ _ => false
  | .active _ _ => false
  | .freeTagCount => false
  | .tag _ _ => false
  | .channelStatus _ _ => false
  | .channelDescriptor _ _ => false
  | .portStatus _ _ => false
  | .unused => false

end Sys2Proof.Machine
end

