-- ==== Sys2Proof/Machine/State.lean ====
section
/-! DEFINITION. Everything the gate keeps, as plain data, and its state while the reset pin is held. -/
namespace Sys2Proof.Machine

/-- The machine never stops: every command has an effect in every state (log entry 26). -/
inductive Fault where
  deriving DecidableEq, Repr

/-- Reasons for which a command has no meaning. -/
inductive Refusal where
  /-- Raised by an arm of exec whose command is not modelled yet; safe. No arm raises it. -/
  | notModelled (mnemonic : String)
  deriving DecidableEq, Repr

/-- A region entry (Table 2-1). -/
structure RegionEntry where
  valid : Bool
  upstreamBase : BitVec 24
  pageCount : BitVec 25
  downstreamBase : BitVec 24
  readSet : BitVec 16
  writeSet : BitVec 16
  mode : WriteMode
  digest : Bool
  deriving DecidableEq, Repr

/-- An entry after reset (R1). -/
def RegionEntry.reset : RegionEntry :=
  { valid := false, upstreamBase := 0#24, pageCount := 0#25, downstreamBase := 0#24, readSet := 0#16,
    writeSet := 0#16, mode := .posted, digest := false }

/-- One bank of the region table (R1). -/
abbrev Bank := Vector RegionEntry 64

/-- A region status record (Table 2-2). -/
structure RegionStatus where
  runState : RunState
  inFlight : Nat
  deriving DecidableEq, Repr

/-- A region status record after reset (R10). -/
def RegionStatus.reset : RegionStatus := { runState := .opened, inFlight := 0 }

/-- A digest record (Table 7-1). -/
structure Digest where
  sum : Word
  wordCount : Word
  lastWriter : Option Writer
  deriving DecidableEq, Repr

/-- A digest record after reset or DIGEST_CLEAR (R106, R110). -/
def Digest.reset : Digest := { sum := 0#32, wordCount := 0#32, lastWriter := none }

/-- A requester record (Table 3-2). -/
structure RequesterRecord where
  state : RequesterState
  right : Bool
  limit : Nat
  outstanding : Nat
  admitted : Word
  refused : Word
  retried : Word
  deriving DecidableEq, Repr

/-- A requester record after reset (R32). -/
def RequesterRecord.reset : RequesterRecord :=
  { state := .opened, right := false, limit := 4, outstanding := 0, admitted := 0#32, refused := 0#32,
    retried := 0#32 }

/-- A tag record (Table 4-1). `reached` says that its deadline has been reached: a deadline once reached stays
reached while the expiry waits (R64). -/
structure TagRecord where
  state : TagState
  owner : TagOwner
  ownerRequester : Fin 16
  upstreamTag : BitVec 8
  ownerChannel : Fin 2
  kind : TagKind
  wordCount : Nat
  index : Fin 64
  generation : BitVec 8
  deadline : Option Word
  reached : Bool
  deriving DecidableEq, Repr

/-- A tag record after reset (R50). -/
def TagRecord.reset : TagRecord :=
  { state := .free, owner := .requester, ownerRequester := 0, upstreamTag := 0#8, ownerChannel := 0, kind := .rd,
    wordCount := 1, index := 0, generation := 0#8, deadline := none, reached := false }

/-- A request that has passed the region check and waits for issue: an issue queue entry (Table 5-1), or the
request a channel has formed (6.4). RD carries no data. -/
structure IssueEntry where
  kind : RequestKind
  requester : Fin 16
  tag : Option (Fin 48)
  address : Address
  wordCount : Nat
  firstEnables : BitVec 4
  lastEnables : BitVec 4
  data : List Word
  index : Fin 64
  generation : BitVec 8
  deriving DecidableEq, Repr

/-- A channel's formed request; `copyWrite` marks a COPY destination write, whose data occupies buffer room until
its issue (R95). -/
structure FormedRequest where
  entry : IssueEntry
  copyWrite : Bool
  deriving DecidableEq, Repr

/-- An item of a channel's read list (6.4). The tag is absent only while the read waits for one (R94). -/
structure ReadItem where
  tag : Option (Fin 48)
  purpose : ReadPurpose
  offset : Nat
  wordCount : Nat
  deriving DecidableEq, Repr

/-- An item of a channel's write list (6.4); the word count is the length of the data. -/
structure WriteItem where
  offset : Nat
  data : List Word
  deriving DecidableEq, Repr

/-- A descriptor as its eight words (Table 12-9). -/
structure Descriptor where
  w0 : Word
  w1 : Word
  w2 : Word
  w3 : Word
  w4 : Word
  w5 : Word
  w6 : Word
  w7 : Word
  deriving DecidableEq, Repr

/-- A move channel: its configuration record (Table 6-1), its status record (Table 6-2) and its working
collections (6.4). -/
structure Channel where
  owner : Fin 16
  firstDescriptor : Address
  notifyOnHalt : Bool
  state : ChannelState
  currentAddress : Address
  descriptor : Option Descriptor
  wordsRemaining : Nat
  haltCause : HaltCause
  haltIndex : Option (Fin 64)
  haltAddress : Option Address
  completed : Word
  scanSum : Word
  scanCount : Word
  tagsHeld : List (Fin 48)
  readList : List ReadItem
  writeList : List WriteItem
  formed : Option FormedRequest
  deriving DecidableEq, Repr

/-- A channel after reset (R86, R87). -/
def Channel.reset : Channel :=
  { owner := 0, firstDescriptor := 0#36, notifyOnHalt := false, state := .idle, currentAddress := 0#36,
    descriptor := none, wordsRemaining := 0, haltCause := .none, haltIndex := none, haltAddress := none,
    completed := 0#32, scanSum := 0#32, scanCount := 0#32, tagsHeld := [], readList := [], writeList := [],
    formed := none }

/-- What a block reports to the fault log: the kind and the optional fields of Table 8-1. -/
structure FaultReport where
  kind : FaultKind
  port : Option Port := none
  requester : Option (Fin 16) := none
  region : Option (Fin 64) := none
  address : Option Address := none
  tag : Option (Fin 48) := none
  detail : Option Detail := none
  deriving DecidableEq, Repr

/-- A fault record (Table 8-2). -/
structure FaultRecord where
  report : FaultReport
  firstTime : Word
  repeatCount : Nat
  deriving DecidableEq, Repr

/-- The command status (Table 9-2). `phase` is present exactly while the state is BUSY. -/
structure CommandStatus where
  busy : Bool
  phase : Option Phase
  lastCommand : Option Byte
  lastOperand : BitVec 16
  lastIssuer : Option (Fin 16)
  lastResult : Option Result
  invalidEntry : Option (Fin 64)
  invalidCause : Option ValidationCause
  invalidOther : Option (Fin 64)
  deriving DecidableEq, Repr

/-- The command status after reset (R131). -/
def CommandStatus.reset : CommandStatus :=
  { busy := false, phase := none, lastCommand := none, lastOperand := 0#16, lastIssuer := none,
    lastResult := some .nothing, invalidEntry := none, invalidCause := none, invalidOther := none }

/-- The counters of a port (Table 10-3), less the discarded replies, which the U port alone has. -/
structure PortCounters where
  unitsSent : Word
  unitsResent : Word
  replays : Word
  unitsAccepted : Word
  badUnits : Word
  gapUnits : Word
  duplicateUnits : Word
  earlyUnits : Word
  badSymbols : Word
  linkLosses : Word
  deriving DecidableEq, Repr

/-- Every counter at 0 (R162, R137). -/
def PortCounters.zero : PortCounters :=
  { unitsSent := 0#32, unitsResent := 0#32, replays := 0#32, unitsAccepted := 0#32, badUnits := 0#32,
    gapUnits := 0#32, duplicateUnits := 0#32, earlyUnits := 0#32, badSymbols := 0#32, linkLosses := 0#32 }

/-- A link port (09_the_transaction_link.md). `replay` is the replay in progress: how many packets of the store,
from its head, it has resent (R154, R156). `initDue` is the time at which the next INIT is due (R144). -/
structure LinkPort where
  state : PortState
  advertised : Nat
  withholds : Bool
  peerCredit : Nat
  peerCeiling : Nat
  allowance : Nat
  owedCredit : Nat
  nextSeq : BitVec 7
  expectedSeq : BitVec 7
  replayStore : List LinkUnit
  replay : Option Nat
  ackTimer : Option Word
  retryRun : Nat
  retrySent : Bool
  ackOwed : Bool
  initDue : Option Word
  inbound : List (List Word)
  counters : PortCounters
  deriving DecidableEq, Repr

/-- A port while the reset pin is held (R146, R162; log entry 6). -/
def LinkPort.reset : LinkPort :=
  { state := .down, advertised := 0, withholds := false, peerCredit := 0, peerCeiling := 0, allowance := 0,
    owedCredit := 0, nextSeq := 0#7, expectedSeq := 0#7, replayStore := [], replay := none, ackTimer := none,
    retryRun := 0, retrySent := false, ackOwed := false, initDue := none, inbound := [],
    counters := PortCounters.zero }

/-- The resources that were missing when the packet at the head of the U port inbound buffer was last evaluated,
and whether one of them has become available since (R45, R46). -/
structure AdmissionWait where
  reply : Bool
  issue : Bool
  tag : Bool
  again : Bool
  deriving DecidableEq, Repr

/-- What the gate has put on its lines, the model's own record (log entry 7). -/
inductive Sent where
  | unit (p : Port) (bytes : List Byte)
  | symbol (p : Port) (kind value check : Byte)
  | serial (b : Byte)
  deriving DecidableEq, Repr

/-- The gate. -/
structure State where
  resetHeld : Bool
  timeBase : Word
  mode : GateMode
  loader : Option (List Word)
  serialSelect : Bool
  active : Bank
  staging : Bank
  generation : BitVec 8
  currentTotal : Nat
  previousTotal : Nat
  regions : Vector RegionStatus 64
  digests : Vector Digest 64
  requesters : Vector RequesterRecord 16
  admissionWait : Option AdmissionWait
  tags : Vector TagRecord 48
  freeTags : List (Fin 48)
  replyTimeout : BitVec 16
  completionWait : Option Bool
  issueQueue : List IssueEntry
  lastGranted : Candidate
  channels : Vector Channel 2
  faultLog : List FaultRecord
  lostCount : Nat
  pendingCauses : BitVec 6
  enabledCauses : BitVec 6
  armed : Bool
  noticeRequester : Option (Fin 16)
  command : CommandStatus
  uPort : LinkPort
  dPort : LinkPort
  discardedReplies : Word
  replyQueue : List Reply
  wire : List Sent
  pending : List Instr
  deriving DecidableEq, Repr

/-- The gate while the power-on reset pin is held active (R163 and the rules it names). -/
def State.reset : State :=
  { resetHeld := true
    timeBase := 0#32
    mode := .loading
    loader := none
    serialSelect := false
    active := Vector.replicate 64 RegionEntry.reset
    staging := Vector.replicate 64 RegionEntry.reset
    generation := 0#8
    currentTotal := 0
    previousTotal := 0
    regions := Vector.replicate 64 RegionStatus.reset
    digests := Vector.replicate 64 Digest.reset
    requesters := Vector.replicate 16 RequesterRecord.reset
    admissionWait := none
    tags := Vector.replicate 48 TagRecord.reset
    freeTags := List.finRange 48
    replyTimeout := Config.timeoutReset
    completionWait := none
    issueQueue := []
    lastGranted := .channel1
    channels := Vector.replicate 2 Channel.reset
    faultLog := []
    lostCount := 0
    pendingCauses := 0#6
    enabledCauses := 0#6
    armed := true
    noticeRequester := none
    command := CommandStatus.reset
    uPort := LinkPort.reset
    dPort := LinkPort.reset
    discardedReplies := 0#32
    replyQueue := []
    wire := []
    pending := [] }

end Sys2Proof.Machine
end

