-- ==== Sys2Proof/Machine/Flags.lean ====
section
/-! DEFINITION. The gate's flags: the notice causes, the fault log and the command status
(spec/07_faults_and_notices.md, spec/08_the_management_aperture.md 9.3). -/
namespace Sys2Proof.Machine

/-- The bit of a cause in a cause set (Table 12-1). -/
def causeBit : Cause → BitVec 6
  | .log => 0x01#6
  | .command => 0x02#6
  | .quiesced => 0x04#6
  | .channel0 => 0x08#6
  | .channel1 => 0x10#6
  | .link => 0x20#6

/-- A cause becomes pending, whether or not it is enabled (R125). -/
def State.raise (c : Cause) (s : State) : State :=
  { s with pendingCauses := s.pendingCauses ||| causeBit c }

/-- The notice cause of a channel (R99). -/
def channelCause (c : Fin 2) : Cause := if c.val = 0 then .channel0 else .channel1

/-- The notice condition (R121). -/
def State.noticeCondition (s : State) : Bool :=
  s.armed && s.noticeRequester.isSome && (s.pendingCauses &&& s.enabledCauses) != 0#6 && s.uPort.state == .up

/-- Whether a fault coalesces with a record: kind, requester and region index agree (R115). -/
def coalesces (f : FaultReport) (r : FaultRecord) : Bool :=
  f.kind == r.report.kind && f.requester == r.report.requester && f.region == r.report.region

/-- One more, unless saturated (Table 8-2, R115). -/
def saturatingSucc (n : Nat) : Nat := if n < Config.saturation then n + 1 else n

/-- The record that a fault makes (R113). -/
def newRecord (f : FaultReport) (now : Word) : FaultRecord :=
  { report := f, firstTime := now, repeatCount := 0 }

/-- The log takes a fault that does not coalesce (R115). -/
def State.addFault (f : FaultReport) (s : State) : State :=
  if s.faultLog.length < Config.logSlots then
    ({ s with faultLog := s.faultLog ++ [newRecord f s.timeBase] }).raise .log
  else { s with lostCount := saturatingSucc s.lostCount }

/-- The log takes a fault: it coalesces into the newest record, is appended, or is lost (R115). -/
def State.takeFault (f : FaultReport) (s : State) : State :=
  match s.faultLog.getLast? with
  | some newest =>
    if coalesces f newest then
      ({ s with faultLog :=
          s.faultLog.dropLast ++ [{ newest with repeatCount := saturatingSucc newest.repeatCount }] }).raise .log
    else s.addFault f
  | none => s.addFault f

/-- The command status after a command that ends in the event that takes it (R132). Every result other than
INVALID makes the invalid fields absent (R131). -/
def CommandStatus.record (code : Byte) (operand : BitVec 16) (issuer : Fin 16) (result : Result) : CommandStatus :=
  { busy := false, phase := none, lastCommand := some code, lastOperand := operand, lastIssuer := some issuer,
    lastResult := some result, invalidEntry := none, invalidCause := none, invalidOther := none }

/-- The command status of a commit that has begun (R134); the issuer is absent for the image commit (R166). -/
def CommandStatus.commitBegun (operand : BitVec 16) (issuer : Option (Fin 16)) : CommandStatus :=
  { busy := true, phase := some .validate, lastCommand := some (commandCode .commit), lastOperand := operand,
    lastIssuer := issuer, lastResult := none, invalidEntry := none, invalidCause := none, invalidOther := none }

/-- The command status when the swap is made: the last command, operand and issuer stay (R134). -/
def CommandStatus.commitDone (c : CommandStatus) : CommandStatus :=
  { c with
    busy := false, phase := none, lastResult := some .done, invalidEntry := none, invalidCause := none,
    invalidOther := none }

/-- The command status when validation fails (R16, R134). -/
def CommandStatus.commitInvalid (c : CommandStatus) (entry : Fin 64) (cause : ValidationCause)
    (other : Option (Fin 64)) : CommandStatus :=
  { c with
    busy := false, phase := none, lastResult := some .invalid, invalidEntry := some entry,
    invalidCause := some cause, invalidOther := other }

end Sys2Proof.Machine
end

