-- ==== Sys2Proof/Machine/Operands.lean ====
section
/-! DEFINITION. What requests, region entries and descriptors mean: ranges, the region check, validation, descriptor
fields (spec/01_the_region_table.md, spec/05_move_channels.md 6.2). -/
namespace Sys2Proof.Machine

/-! ### Ranges of an entry (2.1) -/

/-- The page after the last upstream page, computed without wrapping (2.1). -/
def RegionEntry.upstreamEnd (e : RegionEntry) : Nat := e.upstreamBase.toNat + e.pageCount.toNat

/-- The page after the last downstream page. -/
def RegionEntry.downstreamEnd (e : RegionEntry) : Nat := e.downstreamBase.toNat + e.pageCount.toNat

/-- A valid entry contains a page from its upstream base page to its last upstream page (R3). -/
def RegionEntry.contains (e : RegionEntry) (page : Nat) : Bool :=
  e.valid && e.upstreamBase.toNat ≤ page && page < e.upstreamEnd

/-- Two upstream ranges share a page (R15). -/
def RegionEntry.overlaps (e f : RegionEntry) : Bool :=
  e.upstreamBase.toNat < f.upstreamEnd && f.upstreamBase.toNat < e.upstreamEnd

/-- Page number of a byte address (1.5). -/
def pageOf (address : Nat) : Nat := address / Config.pageBytes

/-- Address of the last word of a request (R4). -/
def lastWordAddress (address wordCount : Nat) : Nat := address + 4 * (wordCount - 1)

/-! ### The region check (R3 to R8) -/

/-- What a passing region check gives (R8). -/
structure Passage where
  index : Fin 64
  address : Address
  kind : RequestKind
  generation : BitVec 8
  deriving DecidableEq, Repr

/-- The result of the region check (R8). -/
inductive CheckResult where
  | miss
  | span (r : Fin 64)
  | permission (r : Fin 64)
  | paused (r : Fin 64)
  | pass (p : Passage)
  deriving DecidableEq, Repr

/-- The index of the valid entry that contains a page (R3). -/
def lookup (bank : Bank) (page : Nat) : Option (Fin 64) :=
  (List.finRange 64).find? (fun r => (bank[r]).contains page)

/-- An RD is judged by the read set, a PW or CW by the write set (R6). -/
def RegionEntry.permits (e : RegionEntry) (kind : RequestKind) (q : Fin 16) : Bool :=
  match kind with
  | .rd => e.readSet.getLsbD q.val
  | .pw => e.writeSet.getLsbD q.val
  | .cw => e.writeSet.getLsbD q.val

/-- The kind a permitted request takes downstream (R7). -/
def RegionEntry.downstreamKind (e : RegionEntry) (kind : RequestKind) : RequestKind :=
  match kind, e.mode with
  | .pw, .confirm => .cw
  | k, _ => k

/-- The downstream address of a request (R5). -/
def RegionEntry.translate (e : RegionEntry) (address : Nat) : Address :=
  BitVec.ofNat 36 (e.downstreamBase.toNat * Config.pageBytes + (address - e.upstreamBase.toNat * Config.pageBytes))

/-- The region check: lookup, span, permission, run state, against the active bank (R8). -/
def State.regionCheck (s : State) (address wordCount : Nat) (kind : RequestKind) (q : Fin 16) : CheckResult :=
  match lookup s.active (pageOf address) with
  | none => .miss
  | some r =>
    let e := s.active[r]
    if e.upstreamEnd ≤ pageOf (lastWordAddress address wordCount) then .span r
    else if !e.permits kind q then .permission r
    else if (s.regions[r]).runState != .opened then .paused r
    else .pass { index := r, address := e.translate address, kind := e.downstreamKind kind,
                 generation := s.generation }

/-! ### Validation (R15) -/

/-- The first of an entry's own four tests that fails (R15). -/
def RegionEntry.ownFault (e : RegionEntry) : Option ValidationCause :=
  if e.pageCount.toNat = 0 then some .countZero
  else if Config.pages < e.upstreamEnd then some .upWrap
  else if Config.pages < e.downstreamEnd then some .downWrap
  else if Config.aperturePage < e.upstreamEnd then some .aperture
  else none

/-- The lowest valid entry below `i` whose upstream range shares a page with that of `i` (R15). -/
def overlapBelow (bank : Bank) (i : Fin 64) : Option (Fin 64) :=
  (List.finRange 64).find? (fun j => j.val < i.val && (bank[j]).valid && (bank[i]).overlaps (bank[j]))

/-- The failure of entry `i`, where one of its tests fails: cause, and the other index for OVERLAP (R15). -/
def entryFault (bank : Bank) (i : Fin 64) : Option (Fin 64 × ValidationCause × Option (Fin 64)) :=
  if (bank[i]).valid then
    match (bank[i]).ownFault with
    | some cause => some (i, cause, none)
    | none => (overlapBelow bank i).map (fun j => (i, .overlap, some j))
  else none

/-- The first failure of a bank in scan order, none when every valid entry passes (R15, R16). -/
def validate (bank : Bank) : Option (Fin 64 × ValidationCause × Option (Fin 64)) :=
  (List.finRange 64).findSome? (entryFault bank)

/-! ### Deadlines (1.5, R65) -/

/-- A deadline is reached when the time base has passed it by less than 2^31. -/
def deadlineReached (now deadline : Word) : Bool := (now - deadline).toNat < 2 ^ 31

/-! ### Requests at admission (R30) -/

/-- Whether the data suits the kind: none for an RD, exactly the word count for a PW or CW (R30). -/
def dataSuits (kind : RequestKind) (wordCount : Nat) (data : List Word) : Bool :=
  match kind with
  | .rd => data.isEmpty
  | .pw => data.length == wordCount
  | .cw => data.length == wordCount

/-- Whether the byte enables are well formed for the word count (R30). -/
def enablesOk (wordCount : Nat) (first last : BitVec 4) : Bool :=
  first != 0#4 && (if wordCount = 1 then last == 0#4 else last != 0#4)

/-- The kind and the address of a well-formed request; none for a MALFORMED one (R30, R171). -/
def wellFormedRequest (r : Request) : Option (RequestKind × Address) :=
  match requestKind r.kindCode, r.address with
  | some kind, some address =>
    if 1 ≤ r.wordCount && r.wordCount ≤ 16 && dataSuits kind r.wordCount r.data &&
        enablesOk r.wordCount r.firstEnables r.lastEnables &&
        address.toNat + 4 * r.wordCount - 1 < 2 ^ 36 then
      some (kind, address)
    else none
  | _, _ => none

/-! ### Descriptors (Table 12-9) -/

/-- Operation code: 0 COPY, 1 FILL, 2 SCAN, 3 unknown. -/
def Descriptor.op (d : Descriptor) : Nat := bits d.w0 0 2

/-- The LAST flag. -/
def Descriptor.last (d : Descriptor) : Bool := d.w0.getLsbD 8

/-- The NOTIFY flag. -/
def Descriptor.notify (d : Descriptor) : Bool := d.w0.getLsbD 9

/-- The word count: 65536 when bit 16 is set. -/
def Descriptor.wordCount (d : Descriptor) : Nat := if d.w1.getLsbD 16 then 65536 else bits d.w1 0 16

/-- The source byte address. -/
def Descriptor.source (d : Descriptor) : Nat := (bits d.w3 0 2 * 2 ^ 32 + d.w2.toNat) * 4

/-- The destination byte address. -/
def Descriptor.destination (d : Descriptor) : Nat := (bits d.w5 0 2 * 2 ^ 32 + d.w4.toNat) * 4

/-- The fill word. -/
def Descriptor.fillWord (d : Descriptor) : Word := d.w6

/-- The next descriptor address. -/
def Descriptor.next (d : Descriptor) : Address := (d.w0.extractLsb' 16 4 ++ d.w7 : BitVec 36)

/-- Whether eight fetched words are BAD_DESCRIPTOR (R88). -/
def Descriptor.bad (d : Descriptor) : Bool :=
  d.op == 3 || d.wordCount == 0 || (!d.last && d.next.toNat % 32 != 0)

/-- The descriptor of eight words; a good fetch answer carries exactly eight (R57, R90). -/
def descriptorOf : List Word → Option Descriptor
  | [w0, w1, w2, w3, w4, w5, w6, w7] =>
    some { w0 := w0, w1 := w1, w2 := w2, w3 := w3, w4 := w4, w5 := w5, w6 := w6, w7 := w7 }
  | _ => none

/-- The words of a descriptor, as the channel status window shows them. -/
def Descriptor.words (d : Descriptor) : List Word := [d.w0, d.w1, d.w2, d.w3, d.w4, d.w5, d.w6, d.w7]

end Sys2Proof.Machine
end

