-- ==== Sys2Proof/Machine/Ops.lean ====
section
/-! DEFINITION. The operations that the commands share: record updates, sending, the reply queue, in-flight counts,
the swap, and the life of a tag (spec/01, 02, 03, 09). -/
namespace Sys2Proof.Machine

/-! ### Record updates -/

/-- Tag record `t` becomes `r`. -/
def State.setTag (t : Fin 48) (r : TagRecord) (s : State) : State := { s with tags := s.tags.set t r }

/-- Requester record `q` becomes `r`. -/
def State.setRequester (q : Fin 16) (r : RequesterRecord) (s : State) : State :=
  { s with requesters := s.requesters.set q r }

/-- Region status record `i` becomes `r`. -/
def State.setRegion (i : Fin 64) (r : RegionStatus) (s : State) : State := { s with regions := s.regions.set i r }

/-- Digest record `i` becomes `r`. -/
def State.setDigest (i : Fin 64) (r : Digest) (s : State) : State := { s with digests := s.digests.set i r }

/-- Channel `c` becomes `r`. -/
def State.setChannel (c : Fin 2) (r : Channel) (s : State) : State := { s with channels := s.channels.set c r }

/-- A port of the gate. -/
def State.port (s : State) : Port → LinkPort
  | .u => s.uPort
  | .d => s.dPort

/-- Port `p` becomes `r`. -/
def State.setPort (p : Port) (r : LinkPort) (s : State) : State :=
  match p with
  | .u => { s with uPort := r }
  | .d => { s with dPort := r }

/-- Port `p` is changed by `f`. -/
def State.updatePort (p : Port) (f : LinkPort → LinkPort) (s : State) : State := s.setPort p (f (s.port p))

/-- The counters of a port are changed by `f`. -/
def LinkPort.count (f : PortCounters → PortCounters) (l : LinkPort) : LinkPort := { l with counters := f l.counters }

/-! ### Sending (R142, R143) -/

/-- Something goes out on a line; the model's own record (log entry 7). -/
def State.send (x : Sent) (s : State) : State := { s with wire := s.wire ++ [x] }

/-- A symbol goes out on port `p` with its check byte (R143). -/
def State.sendSymbol (p : Port) (kind value : Byte) (s : State) : State :=
  s.send (.symbol p kind value (crc8 kind value))

/-- A link unit goes out on port `p`. -/
def State.sendUnit (p : Port) (l : LinkUnit) (s : State) : State := s.send (.unit p (unitBytes l))

/-- CREDIT(k) is sent; it raises the receive allowance by k (R152, R158). -/
def State.sendCredit (p : Port) (k : Nat) (s : State) : State :=
  (s.sendSymbol p creditKind (creditValue k)).updatePort p (fun l => { l with allowance := l.allowance + k })

/-- The U port grants the credit it withholds, when it is UP (R158, R169). -/
def State.grantWithheld (s : State) : State :=
  if s.uPort.state == .up && s.uPort.withholds then
    (s.sendCredit .u Config.inboundSlots).updatePort .u (fun l => { l with withholds := false })
  else s

/-- The four conditions under which a send side takes a new packet (R79, R153). -/
def LinkPort.canSend (l : LinkPort) : Bool :=
  l.state == .up && 1 ≤ l.peerCredit && l.replayStore.length < Config.replaySlots && l.replay.isNone

/-- A port after it has sent a new packet: the number, the credit, the replay store, the timer (R153). -/
def LinkPort.sent (l : LinkPort) (u : LinkUnit) (now : Word) : LinkPort :=
  { l with
    nextSeq := l.nextSeq + 1#7
    peerCredit := l.peerCredit - 1
    replayStore := l.replayStore ++ [u]
    ackTimer := if l.replayStore.isEmpty then some (now + Config.ackTime) else l.ackTimer
    counters := { l.counters with unitsSent := l.counters.unitsSent + 1#32 } }

/-- A new packet is wrapped, sent and stored (R153). -/
def State.sendPacket (p : Port) (packet : List Word) (s : State) : State :=
  let u := wrapUnit (s.port p).nextSeq packet
  (s.sendUnit p u).updatePort p (fun l => l.sent u s.timeBase)

/-! ### Waiting for shared resources (R45, R46) -/

/-- The waiting admission packet is to be evaluated again when a resource it lacked becomes available (R46). -/
def State.noteAdmission (lacked : AdmissionWait → Bool) (s : State) : State :=
  { s with admissionWait := s.admissionWait.map (fun w => { w with again := w.again || lacked w }) }

/-- A reply slot becomes available: admission and the completion unit weigh it (R46, R62, R161). -/
def State.noteReplySlot (s : State) : State :=
  { s.noteAdmission AdmissionWait.reply with completionWait := s.completionWait.map (fun _ => true) }

/-- An issue queue slot becomes available (R46, R75, R76). -/
def State.noteIssueSlot (s : State) : State := s.noteAdmission AdmissionWait.issue

/-- A tag joins the free tag list (R46). -/
def State.noteFreeTag (s : State) : State := s.noteAdmission AdmissionWait.tag

/-! ### The reply queue (R160) -/

/-- Whether a placement succeeds now: it always does while the U port is not UP (R160). -/
def State.replySlot (s : State) : Bool := s.uPort.state != .up || s.replyQueue.length < Config.replySlots

/-- A packet is placed at the tail, or discarded and counted while the U port is not UP (R56, R160). -/
def State.placeReply (r : Reply) (s : State) : State :=
  if s.uPort.state == .up then { s with replyQueue := s.replyQueue ++ [r] }
  else { s with discardedReplies := s.discardedReplies + 1#32 }

/-! ### In-flight counts and the swap (R12, R13, R17, R18) -/

/-- The swap that ends a successful commit (R18). The image commit's swap also ends the load (R167, R169). -/
def State.swap (s : State) : State :=
  let s' := ({ s with
      active := s.staging
      generation := s.generation + 1#8
      previousTotal := s.currentTotal
      currentTotal := 0
      command := s.command.commitDone
      mode := .normal }).raise .command
  if s.mode == .loading then s'.grantWithheld else s'

/-- A commit in DRAIN whose previous-generation total is zero makes the swap (R17). -/
def State.swapIfDrained (s : State) : State :=
  if s.command.phase == some .drain && s.previousTotal == 0 then s.swap else s

/-- A region check's request is counted against its index and the current generation (R12, R13). -/
def State.rise (r : Fin 64) (s : State) : State :=
  { s.setRegion r { s.regions[r] with inFlight := (s.regions[r]).inFlight + 1 } with
    currentTotal := s.currentTotal + 1 }

/-- A region status record when its count falls: a QUIESCING index that reaches zero becomes QUIESCED (R23). -/
def RegionStatus.fall (r : RegionStatus) : RegionStatus :=
  { runState := if r.runState == .quiescing && r.inFlight - 1 == 0 then .quiesced else r.runState
    inFlight := r.inFlight - 1 }

/-- The fall of an index's count (R12), with the QUIESCED cause where the index drains (R23). -/
def State.fallIndex (r : Fin 64) (s : State) : State :=
  let s' := s.setRegion r (s.regions[r]).fall
  if (s.regions[r]).runState == .quiescing && (s.regions[r]).inFlight - 1 == 0 then s'.raise .quiesced else s'

/-- The fall of the total of the generation an item carries (R13). -/
def State.fallTotal (generation : BitVec 8) (s : State) : State :=
  if generation == s.generation then { s with currentTotal := s.currentTotal - 1 }
  else if generation == s.generation - 1#8 then { s with previousTotal := s.previousTotal - 1 }
  else s

/-- An in-flight item ends: its counts fall, and a drained commit swaps at once (R12, R17). -/
def State.fall (r : Fin 64) (generation : BitVec 8) (s : State) : State :=
  ((s.fallIndex r).fallTotal generation).swapIfDrained

/-- A region status record at the loss of the D port (R27). -/
def RegionStatus.lose (r : RegionStatus) : RegionStatus :=
  { runState := if r.runState == .quiescing then .quiesced else r.runState, inFlight := 0 }

/-- A table with every record changed by `f`. -/
def mapTable {α : Type} {n : Nat} (f : α → α) (v : Vector α n) : Vector α n :=
  ⟨⟨v.toList.map f⟩, by simp⟩

/-- The loss of the D port ends every in-flight item (R27). -/
def State.endAllInFlight (s : State) : State :=
  let s' := { s with regions := mapTable RegionStatus.lose s.regions, currentTotal := 0, previousTotal := 0 }
  (if s.regions.toList.any (fun r => r.runState == .quiescing) then s'.raise .quiesced else s').swapIfDrained

/-! ### Tags (R50 to R54) -/

/-- A tag record when its tag becomes FREE: the rest of it is kept (R50). -/
def TagRecord.freed (r : TagRecord) : TagRecord := { r with state := .free, deadline := none, reached := false }

/-- A tag record when its request is issued (R53). -/
def TagRecord.issued (deadline : Word) (r : TagRecord) : TagRecord :=
  { r with state := .waiting, deadline := some deadline, reached := false }

/-- A tag record when it expires (R63, R64). -/
def TagRecord.expire (deadline : Word) (r : TagRecord) : TagRecord :=
  { r with state := .expired, deadline := some deadline, reached := false }

/-- A tag record when it becomes CLOSING (R68). -/
def TagRecord.close (r : TagRecord) : TagRecord := { r with state := .closing, deadline := none, reached := false }

/-- Whether the tag counts as an in-flight item (R11). -/
def TagRecord.inFlight (r : TagRecord) : Bool := r.state == .queued || r.state == .waiting

/-- Whether the tag counts toward its requester's outstanding count (R35). -/
def TagRecord.owes (r : TagRecord) : Bool :=
  r.owner == .requester && (r.state == .queued || r.state == .waiting || r.state == .closing)

/-- A tag leaves the head of the free list and becomes QUEUED with the record given (R52). -/
def State.takeTag (r : TagRecord) (s : State) : Option (Fin 48) × State :=
  match s.freeTags with
  | [] => (none, s)
  | t :: rest => (some t, { s.setTag t { r with state := .queued, deadline := none, reached := false } with
      freeTags := rest })

/-- The outstanding count of a requester falls by one (R35). -/
def State.lowerOutstanding (q : Fin 16) (s : State) : State :=
  s.setRequester q { s.requesters[q] with outstanding := (s.requesters[q]).outstanding - 1 }

/-- What the counts of a requester, an index and a generation lose when a tag with record `r` leaves its state
for FREE or EXPIRED (R12, R35). -/
def State.endCounts (r : TagRecord) (s : State) : State :=
  let s' := if r.owes then s.lowerOutstanding r.ownerRequester else s
  if r.inFlight then s'.fall r.index r.generation else s'

/-- A record becomes FREE and its number joins the tail of the free list (R50, R51). -/
def State.putFree (t : Fin 48) (s : State) : State :=
  State.noteFreeTag { s.setTag t (s.tags[t]).freed with freeTags := s.freeTags ++ [t] }

/-- A tag in use becomes FREE by a transition of Table 4-2; a FREE tag has none. -/
def State.freeTag (t : Fin 48) (s : State) : State :=
  if (s.tags[t]).state == .free then s else (s.putFree t).endCounts (s.tags[t])

/-- A QUEUED tag becomes WAITING at its issue, with its reply deadline (R53). -/
def State.issueTag (t : Fin 48) (s : State) : State :=
  if (s.tags[t]).state == .queued then
    s.setTag t ((s.tags[t]).issued (s.timeBase + s.replyTimeout.setWidth 32))
  else s

/-- A WAITING tag becomes EXPIRED, with its reclaim deadline of four times T (R63, R64). -/
def State.expireTag (t : Fin 48) (s : State) : State :=
  if (s.tags[t]).state == .waiting then
    (s.setTag t ((s.tags[t]).expire (s.timeBase + 4#32 * s.replyTimeout.setWidth 32))).endCounts (s.tags[t])
  else s

/-- Whether a tag's deadline is present and reached, now or at an earlier moment (R64, R65). -/
def State.tagReached (t : Fin 48) (s : State) : Bool :=
  match (s.tags[t]).deadline with
  | some d => (s.tags[t]).reached || deadlineReached s.timeBase d
  | none => false

/-- The fault of a GATE-owned tag freed by the loss of the D port (R68). -/
def lostGateTag (t : Fin 48) (r : TagRecord) : FaultReport :=
  { kind := .linkDown, port := some .d, requester := some r.ownerRequester, region := some r.index, tag := some t }

/-- One tag at the loss of the D port (R68). The counts of what ends are taken by `endAllInFlight` (R27). -/
def State.closeTag (s : State) (t : Fin 48) : State :=
  let r := s.tags[t]
  match r.state, r.owner with
  | .queued, .requester => s.setTag t r.close
  | .waiting, .requester => s.setTag t r.close
  | .queued, .gate => (s.putFree t).takeFault (lostGateTag t r)
  | .waiting, .gate => (s.putFree t).takeFault (lostGateTag t r)
  | .queued, .channel => s.putFree t
  | .waiting, .channel => s.putFree t
  | .expired, _ => s.putFree t
  | .free, _ => s
  | .closing, _ => s

/-- Every tag at the loss of the D port, in increasing number (R68). -/
def State.closeTags (s : State) : State := (List.finRange 48).foldl State.closeTag s

/-! ### The issue queue at the loss of the D port (R77) -/

/-- The fault of a dropped entry: one for an untagged posted entry, none for a tagged one (R77). -/
def State.dropEntry (s : State) (e : IssueEntry) : State :=
  if e.tag.isNone then
    s.takeFault { kind := .linkDown, port := some .d, requester := some e.requester, region := some e.index }
  else s

/-- The issue queue is emptied, its faults in queue order (R77). -/
def State.emptyIssueQueue (s : State) : State :=
  let s' := { s.issueQueue.foldl State.dropEntry s with issueQueue := [] }
  if s.issueQueue.isEmpty then s' else s'.noteIssueSlot

end Sys2Proof.Machine
end

