-- ==== Sys2Proof/Machine/Channels.lean ====
section
/-! DEFINITION. The move channels: halting, forming requests, finishing descriptors, taking answers
(spec/05_move_channels.md), and the command CHANNEL_TAG_TAKE. -/
namespace Sys2Proof.Machine

/-! ### Stopping (R100, R101) -/

/-- The port of a CHANNEL_HALT fault (R101). -/
def haltPort : HaltCause → Option Port
  | .targetError => some .d
  | .timeout => some .d
  | .linkDown => some .d
  | .none => none
  | .stopped => none
  | .refused => none
  | .paused => none
  | .badDescriptor => none

/-- The CHANNEL_HALT fault of a channel (R101). -/
def haltFault (ch : Channel) : FaultReport :=
  { kind := .channelHalt, port := haltPort ch.haltCause, requester := some ch.owner, region := ch.haltIndex,
    address := ch.haltAddress, detail := some (.halt ch.haltCause) }

/-- A channel record when the channel becomes HALTED: nothing is held or formed any more (R101, R104). -/
def Channel.halt (ch : Channel) : Channel :=
  { ch with state := .halted, tagsHeld := [], readList := [], writeList := [], formed := none }

/-- Channel `c`, whose record is to be `ch` halted, becomes HALTED: fault unless STOPPED, then the notice cause
when notify on halt is yes (R101). -/
def State.haltNow (c : Fin 2) (ch : Channel) (s : State) : State :=
  let s1 := s.setChannel c ch.halt
  let s2 := if ch.haltCause == .stopped then s1 else s1.takeFault (haltFault ch)
  if ch.notifyOnHalt then s2.raise (channelCause c) else s2

/-- A channel in DRAIN that holds no tags becomes HALTED (R101). -/
def State.haltIfEmpty (c : Fin 2) (s : State) : State :=
  if (s.channels[c]).state == .drain && (s.channels[c]).tagsHeld.isEmpty then s.haltNow c (s.channels[c]) else s

/-- Whether a channel is in FETCH or RUN. -/
def Channel.running (ch : Channel) : Bool := ch.state == .fetch || ch.state == .run

/-- A channel record on entering DRAIN: the write list and an untagged formed request are discarded (R100). -/
def Channel.drained (ch : Channel) (cause : HaltCause) (index : Option (Fin 64)) (address : Option Address) :
    Channel :=
  { ch with
    state := .drain
    haltCause := cause
    haltIndex := index
    haltAddress := address
    writeList := []
    readList := ch.readList.filter (fun i => i.tag.isSome)
    formed := ch.formed.filter (fun f => f.entry.tag.isSome) }

/-- The in-flight item of a formed request that holds no tag ends (R12, R100). -/
def State.dropFormed (formed : Option FormedRequest) (s : State) : State :=
  match formed with
  | some f => if f.entry.tag.isNone then s.fall f.entry.index f.entry.generation else s
  | none => s

/-- A channel in FETCH or RUN takes a halt and enters DRAIN, and HALTED at once when it holds no tags; a halt taken
in any other state keeps what is there (R100). -/
def State.enterDrain (c : Fin 2) (cause : HaltCause) (index : Option (Fin 64)) (address : Option Address)
    (s : State) : State :=
  let ch := s.channels[c]
  if ch.running then ((s.dropFormed ch.formed).setChannel c (ch.drained cause index address)).haltIfEmpty c
  else s.haltIfEmpty c

/-! ### Forming requests (R90 to R97) -/

/-- Buffer words reserved: the reads, the write list and a formed COPY write; none outside FETCH and RUN, since the
buffer is freed whole on entering DRAIN (R95, R100). -/
def Channel.reserved (ch : Channel) : Nat :=
  if ch.running then
    (ch.readList.map ReadItem.wordCount).sum + (ch.writeList.map (fun i => i.data.length)).sum +
      (match ch.formed with
       | some f => if f.copyWrite then f.entry.wordCount else 0
       | none => 0)
  else 0

/-- Free buffer room (R95). -/
def Channel.room (ch : Channel) : Nat := Config.channelBuffer - ch.reserved

/-- What the checks of a channel request give: a halt with its cause, index and address, or a passage (R93). -/
inductive FormResult where
  | stop (cause : HaltCause) (index : Option (Fin 64)) (address : Option Address)
  | pass (p : Passage)
  deriving DecidableEq, Repr

/-- The halt address that shows a request's address: a free value for one past the top of the upstream space, which the
field cannot hold (R93, Table 6-2; log entry 27). -/
def shownAddress (address : Nat) : Address :=
  if address < 2 ^ 36 then BitVec.ofNat 36 address else Config.haltAddressBeyond address

/-- The checks of a channel request, in the order of R93. The address is not cut to 36 bits: a range that runs past the
top of the upstream space is found by the region check (R88). -/
def State.channelCheck (s : State) (owner : Fin 16) (address wordCount : Nat) (kind : RequestKind) : FormResult :=
  let shown := some (shownAddress address)
  if (s.requesters[owner]).state == .fenced then .stop .refused none shown
  else if s.dPort.state != .up then .stop .linkDown none none
  else
    match s.regionCheck address wordCount kind owner with
    | .miss => .stop .refused none shown
    | .span r => .stop .refused (some r) shown
    | .permission r => .stop .refused (some r) shown
    | .paused r => .stop .paused (some r) shown
    | .pass p => .pass p

/-- Last byte enables of a channel request (R92). -/
def channelLastEnables (wordCount : Nat) : BitVec 4 := if 1 < wordCount then 0xF#4 else 0x0#4

/-- The request a channel forms once its checks have passed (R81, R92, R93). -/
def channelEntry (owner : Fin 16) (p : Passage) (wordCount : Nat) (data : List Word) : IssueEntry :=
  { kind := p.kind, requester := owner, tag := none, address := p.address, wordCount := wordCount,
    firstEnables := 0xF#4, lastEnables := channelLastEnables wordCount, data := data, index := p.index,
    generation := p.generation }

/-- The record of a tag that a channel takes for its request (R52, R94). -/
def channelTag (c : Fin 2) (e : IssueEntry) : TagRecord :=
  { state := .queued, owner := .channel, ownerRequester := e.requester, upstreamTag := 0#8, ownerChannel := c,
    kind := if e.kind == .rd then .rd else .cw, wordCount := e.wordCount, index := e.index,
    generation := e.generation, deadline := none, reached := false }

/-- The tag a formed request takes at once, where it needs one and the free list has one (R94). -/
def State.takeFormedTag (c : Fin 2) (e : IssueEntry) (s : State) : Option (Fin 48) × State :=
  if e.kind == .pw then (none, s) else s.takeTag (channelTag c e)

/-- Channel `c` forms `e`: it is counted, takes its tag where it can, and fills the slot; `change` gives the other
changes of the channel record (R93, R94). -/
def State.install (c : Fin 2) (e : IssueEntry) (copyWrite : Bool) (change : Option (Fin 48) → Channel → Channel)
    (s : State) : State :=
  let taken := (s.rise e.index).takeFormedTag c e
  let ch := change taken.1 (s.channels[c])
  taken.2.setChannel c { ch with
    formed := some { entry := { e with tag := taken.1 }, copyWrite := copyWrite }
    tagsHeld := ch.tagsHeld ++ taken.1.toList }

/-- Channel `c` forms a read, or enters DRAIN when a check fails (R93). `lowers` is how far words remaining falls:
the chunk's words, and nothing for a fetch (R92). -/
def State.formRead (c : Fin 2) (address wordCount : Nat) (purpose : ReadPurpose) (offset lowers : Nat)
    (s : State) : State :=
  let owner := (s.channels[c]).owner
  match s.channelCheck owner address wordCount .rd with
  | .stop cause index shown => s.enterDrain c cause index shown
  | .pass p =>
    s.install c (channelEntry owner p wordCount []) false (fun tag ch =>
      { ch with
        readList := ch.readList ++ [{ tag := tag, purpose := purpose, offset := offset, wordCount := wordCount }]
        wordsRemaining := ch.wordsRemaining - lowers })

/-- Channel `c` forms a write of `data`, or enters DRAIN when a check fails (R93). -/
def State.formWrite (c : Fin 2) (address : Nat) (data : List Word) (copyWrite : Bool) (change : Channel → Channel)
    (s : State) : State :=
  let owner := (s.channels[c]).owner
  match s.channelCheck owner address data.length .pw with
  | .stop cause index shown => s.enterDrain c cause index shown
  | .pass p => s.install c (channelEntry owner p data.length data) copyWrite (fun _ ch => change ch)

/-- Whether a write to `address` may be formed as far as tags go: a CONFIRM region's write needs fewer than four
tags held (R91, R94; log entry 14). -/
def State.writeMayTakeTag (c : Fin 2) (address : Nat) (s : State) : Bool :=
  match lookup s.active (pageOf address) with
  | some r => (s.active[r]).mode == .posted || (s.channels[c]).tagsHeld.length < Config.channelTags
  | none => true

/-- Whether a read of `wordCount` words may be formed as far as tags and buffer go (R94, R95). -/
def Channel.readMayForm (ch : Channel) (wordCount : Nat) : Bool :=
  ch.tagsHeld.length < Config.channelTags && wordCount ≤ ch.room

/-- The next chunk of the descriptor's range, where one is due (R91, R92, R96 to R98). -/
def State.formChunk (c : Fin 2) (d : Descriptor) (s : State) : State :=
  let ch := s.channels[c]
  let n := min Config.chunkWords ch.wordsRemaining
  let offset := d.wordCount - ch.wordsRemaining
  if ch.wordsRemaining = 0 then s
  else
    match d.op with
    | 0 => if ch.readMayForm n then s.formRead c (d.source + 4 * offset) n .copy offset n else s
    | 1 =>
      if s.writeMayTakeTag c (d.destination + 4 * offset) then
        s.formWrite c (d.destination + 4 * offset) (List.replicate n d.fillWord) false
          (fun ch => { ch with wordsRemaining := ch.wordsRemaining - n })
      else s
    | 2 => if ch.readMayForm n then s.formRead c (d.source + 4 * offset) n .scan offset n else s
    | _ => s

/-- A channel in RUN forms what is due: the oldest write of the write list when it may take a tag, otherwise the
next chunk (R91). -/
def State.formRun (c : Fin 2) (d : Descriptor) (s : State) : State :=
  match (s.channels[c]).writeList with
  | item :: rest =>
    if s.writeMayTakeTag c (d.destination + 4 * item.offset) then
      s.formWrite c (d.destination + 4 * item.offset) item.data true (fun ch => { ch with writeList := rest })
    else s.formChunk c d
  | [] => s.formChunk c d

/-- The fetch read is due while none is outstanding (R90; log entry 15). -/
def State.formFetch (c : Fin 2) (s : State) : State :=
  let ch := s.channels[c]
  if ch.readList.isEmpty && ch.readMayForm 8 then s.formRead c ch.currentAddress.toNat 8 .fetch 0 0 else s

/-- A channel weighs the forming of one request (R91). -/
def State.formNext (c : Fin 2) (s : State) : State :=
  let ch := s.channels[c]
  if ch.formed.isSome then s
  else
    match ch.state, ch.descriptor with
    | .fetch, _ => s.formFetch c
    | .run, some d => s.formRun c d
    | .run, none => s
    | .idle, _ => s
    | .drain, _ => s
    | .halted, _ => s

/-! ### Finishing a descriptor (R99) -/

/-- Whether the descriptor in RUN is finished (R99). -/
def Channel.finished (ch : Channel) (d : Descriptor) : Bool :=
  ch.wordsRemaining == 0 && ch.readList.isEmpty && ch.writeList.isEmpty && ch.formed.isNone &&
    (!d.last || ch.tagsHeld.isEmpty)

/-- A channel record after it has finished descriptor `d` (R99). -/
def Channel.finish (ch : Channel) (d : Descriptor) : Channel :=
  if d.last then { ch with completed := ch.completed + 1#32, state := .idle }
  else
    { ch with
      completed := ch.completed + 1#32
      currentAddress := d.next
      descriptor := none
      state := .fetch }

/-- The descriptor is finished when its conditions hold (R99). -/
def State.finishIfDone (c : Fin 2) (s : State) : State :=
  let ch := s.channels[c]
  match ch.state, ch.descriptor with
  | .run, some d =>
    if ch.finished d then
      let s' := s.setChannel c (ch.finish d)
      if d.last || d.notify then s'.raise (channelCause c) else s'
    else s
  | _, _ => s

/-- What a channel weighs at each of its events: the finishing of its descriptor, then one formation (R91, R99). -/
def State.advance (c : Fin 2) (s : State) : State := (s.finishIfDone c).formNext c

/-! ### Answers and expiries of a channel's tags (R61, R63, R88, R96, R98, R100) -/

/-- A channel record once tag `t` has ended: it leaves the tags held and its read leaves the read list. -/
def Channel.endTag (t : Fin 48) (ch : Channel) : Channel :=
  { ch with
    tagsHeld := ch.tagsHeld.filter (fun u => u != t)
    readList := ch.readList.filter (fun i => i.tag != some t) }

/-- The good answer to a fetch: a good descriptor brings RUN, a bad one DRAIN (R88, R90). -/
def State.acceptDescriptor (c : Fin 2) (data : List Word) (s : State) : State :=
  match descriptorOf data with
  | some d =>
    if d.bad then s.enterDrain c .badDescriptor none none
    else
      (s.setChannel c { s.channels[c] with
        descriptor := some d, wordsRemaining := d.wordCount, state := .run }).advance c
  | none => s.enterDrain c .badDescriptor none none

/-- A good answer handed to a channel in FETCH or RUN; `item` is the read it answers, absent for a confirmation
(R88, R96, R98). -/
def State.goodAnswer (c : Fin 2) (item : Option ReadItem) (data : List Word) (s : State) : State :=
  let ch := s.channels[c]
  match item with
  | none => s.advance c
  | some i =>
    match i.purpose with
    | .fetch => s.acceptDescriptor c data
    | .copy =>
      (s.setChannel c { ch with writeList := ch.writeList ++ [{ offset := i.offset, data := data }] }).advance c
    | .scan =>
      (s.setChannel c { ch with
        scanSum := ch.scanSum + data.foldl (· + ·) 0#32
        scanCount := ch.scanCount + BitVec.ofNat 32 data.length }).advance c

/-- The answer to channel tag `t` is handed to the channel; in DRAIN it is discarded (R61, R100). -/
def State.channelAnswer (c : Fin 2) (t : Fin 48) (index : Fin 64) (good : Bool) (data : List Word)
    (s : State) : State :=
  let ch := s.channels[c]
  let s' := s.setChannel c (ch.endTag t)
  if ch.running then
    if good then s'.goodAnswer c (ch.readList.find? (fun i => i.tag == some t)) data
    else s'.enterDrain c .targetError (some index) none
  else s'.haltIfEmpty c

/-- Channel tag `t` has expired: the channel enters DRAIN with cause TIMEOUT (R63, R100). -/
def State.channelExpiry (c : Fin 2) (t : Fin 48) (index : Fin 64) (s : State) : State :=
  (s.setChannel c ((s.channels[c]).endTag t)).enterDrain c .timeout (some index) none

/-! ### The loss of the D port (R104) -/

/-- One channel at the loss of the D port (R104); its tags and counts are taken by R68 and R27. -/
def State.loseChannel (c : Fin 2) (s : State) : State :=
  let ch := s.channels[c]
  if ch.running then s.haltNow c { ch with haltCause := .linkDown, haltIndex := none, haltAddress := none }
  else if ch.state == .drain then s.haltNow c ch
  else s

/-! ### Starting (R89, R103) -/

/-- A channel record after a start (R89). -/
def Channel.start (ch : Channel) : Channel :=
  { ch with
    scanSum := 0#32
    scanCount := 0#32
    completed := 0#32
    haltCause := .none
    haltIndex := none
    haltAddress := none
    currentAddress := ch.firstDescriptor
    descriptor := none
    wordsRemaining := 0
    state := .fetch
    readList := []
    writeList := []
    formed := none }

/-- A channel record after a resume: FETCH again, or RUN of the descriptor it holds from its first chunk (R103). -/
def Channel.resumed (ch : Channel) : Channel :=
  let ch' := { ch with
    haltCause := HaltCause.none
    haltIndex := none
    haltAddress := none
    readList := []
    writeList := []
    formed := none }
  match ch.descriptor with
  | none => { ch' with state := .fetch }
  | some d => { ch' with state := .run, wordsRemaining := d.wordCount }

/-! ### CHANNEL_TAG_TAKE (R94) -/

/-- Whether a formed request waits for a tag (R94). -/
def FormedRequest.lacksTag (f : FormedRequest) : Bool := f.entry.kind != .pw && f.entry.tag.isNone

/-- Whether a channel's candidate is present at the arbiter (R78). -/
def Channel.candidate (ch : Channel) : Bool :=
  match ch.formed with
  | some f => !f.lacksTag
  | none => false

/-- A channel record whose formed request has taken tag `t` (R94). -/
def Channel.taken (ch : Channel) (f : FormedRequest) (t : Fin 48) : Channel :=
  { ch with
    formed := some { f with entry := { f.entry with tag := some t } }
    tagsHeld := ch.tagsHeld ++ [t]
    readList := ch.readList.map (fun i => if i.tag.isNone then { i with tag := some t } else i) }

/-- A channel's formed request that waits for a tag takes the head of the free list; no count changes (R94). -/
def State.channelTakesTag (c : Fin 2) (s : State) : State :=
  match (s.channels[c]).formed with
  | some f =>
    if f.lacksTag then
      match s.takeTag (channelTag c f.entry) with
      | (some t, s') => s'.setChannel c ((s.channels[c]).taken f t)
      | (none, _) => s
    else s
  | none => s

/-- CHANNEL_TAG_TAKE (R94). -/
def execChannelTagTake (c : Fin 2) (s : State) : Host.Outcome State Fault Refusal := .next (s.channelTakesTag c)

end Sys2Proof.Machine
end

