-- ==== Sys2Proof/Machine/Links.lean ====
section
/-! DEFINITION. The two link ports: reset and loss, the receive side, the send side, credits
(spec/09_the_transaction_link.md), with the commands of that family. -/
namespace Sys2Proof.Machine

/-! ### Entering DOWN and INIT (R144, R146) -/

/-- What entering DOWN clears; the counters and the advertised credit stay (R146). -/
def LinkPort.enterDown (l : LinkPort) : LinkPort :=
  { LinkPort.reset with advertised := l.advertised, withholds := l.withholds, counters := l.counters }

/-- The other collections that entering DOWN empties: the reply queue of the U port, counted, and the wait of the
packet that stood at the head of the inbound buffer (R46, R146, R161). -/
def State.emptyBehind (p : Port) (s : State) : State :=
  match p with
  | .u =>
    State.noteReplySlot { s with
      replyQueue := []
      discardedReplies := s.discardedReplies + BitVec.ofNat 32 s.replyQueue.length
      admissionWait := none }
  | .d => { s with completionWait := none }

/-- The credit a port advertises on entering INIT (R144). -/
def State.advertisement (p : Port) (s : State) : Nat :=
  match p, s.mode with
  | .u, .loading => 0
  | _, _ => Config.inboundSlots

/-- A port on entering INIT (R144). -/
def LinkPort.enterInit (l : LinkPort) (advertised : Nat) (now : Word) : LinkPort :=
  { l with
    state := .init
    advertised := advertised
    withholds := advertised == 0
    initDue := some (now + Config.initTime) }

/-- A port enters DOWN and in the same event INIT, and sends its INIT (R144, R146). -/
def State.downAndInit (p : Port) (s : State) : State :=
  (((s.emptyBehind p).updatePort p (fun l => l.enterDown.enterInit (s.advertisement p) s.timeBase)).sendSymbol p
    initKind (initValue (s.advertisement p) false))

/-! ### Resets and link losses (R147) -/

/-- The other blocks take the loss of a port: for the D port the tag pool, the issue queue, the channels and the
region table, in the order of R116; for the U port the notice unit (R126). -/
def State.takeLoss (p : Port) (s : State) : State :=
  match p with
  | .u => { s with armed := true }
  | .d => (((s.closeTags.emptyIssueQueue).loseChannel 0).loseChannel 1).endAllInFlight

/-- The RESET symbol that goes before a reset of the port's own (R147). -/
def State.announceReset (p : Port) (cause : ResetCause) (s : State) : State :=
  if cause == .peerReset then s else s.sendSymbol p resetKind 0x00#8

/-- A reset of a port. Taken from UP it is a link loss: counted, recorded, LINK pending, and the other blocks take
it (R147). -/
def State.resetPort (p : Port) (cause : ResetCause) (s : State) : State :=
  let s1 := s.announceReset p cause
  if (s.port p).state == .up then
    let s2 := s1.updatePort p (fun l => l.count (fun c => { c with linkLosses := c.linkLosses + 1#32 }))
    let s3 := (s2.takeFault { kind := .linkReset, port := some p, detail := some (.reset cause) }).raise .link
    (s3.takeLoss p).downAndInit p
  else s1.downAndInit p

/-! ### The receive side (R148 to R152) -/

/-- A packet is accepted into the inbound buffer (R149). -/
def LinkPort.accept (l : LinkPort) (packet : List Word) : LinkPort :=
  { l with
    inbound := l.inbound ++ [packet]
    expectedSeq := l.expectedSeq + 1#7
    retrySent := false
    allowance := l.allowance - 1
    ackOwed := true
    counters := { l.counters with unitsAccepted := l.counters.unitsAccepted + 1#32 } }

/-- A gap is reported by one RETRY of the expected number (R151). -/
def State.reportGap (p : Port) (s : State) : State :=
  if (s.port p).retrySent then s
  else
    (s.sendSymbol p retryKind (seqValue (s.port p).expectedSeq)).updatePort p (fun l => { l with retrySent := true })

/-- A bad unit in UP (R151). -/
def State.takeBadUnit (p : Port) (s : State) : State :=
  (s.updatePort p (fun l => l.count (fun c => { c with badUnits := c.badUnits + 1#32 }))).reportGap p

/-- A good unit ahead of the expected number (R151). -/
def State.takeAheadUnit (p : Port) (s : State) : State :=
  (s.updatePort p (fun l => l.count (fun c => { c with gapUnits := c.gapUnits + 1#32 }))).reportGap p

/-- A good duplicate unit: discarded, and answered with ACK of the expected number less one (R150). -/
def State.takeDuplicate (p : Port) (s : State) : State :=
  (s.updatePort p (fun l => l.count (fun c => { c with duplicateUnits := c.duplicateUnits + 1#32 }))).sendSymbol p
    ackKind (seqValue ((s.port p).expectedSeq - 1#7))

/-- A good in-order unit: accepted with an allowance above 0, a protocol violation otherwise (R149, R152). -/
def State.takeInOrder (p : Port) (packet : List Word) (s : State) : State :=
  if (s.port p).allowance = 0 then s.resetPort p .protocol else s.updatePort p (fun l => l.accept packet)

/-- A link unit arrives in UP and is classed (R148). -/
def State.classUnit (p : Port) (bytes : List Byte) (s : State) : State :=
  match readUnit bytes with
  | none => s.takeBadUnit p
  | some (seq, packet) =>
    let distance := (seq - (s.port p).expectedSeq).toNat
    if distance = 0 then s.takeInOrder p packet
    else if distance < 64 then s.takeAheadUnit p
    else s.takeDuplicate p

/-- A link unit arrives at a port: classed in UP, discarded as early in INIT, not taken in DOWN (R144, R148, R163). -/
def State.receiveUnit (p : Port) (bytes : List Byte) (s : State) : State :=
  match (s.port p).state with
  | .up => s.classUnit p bytes
  | .init => s.updatePort p (fun l => l.count (fun c => { c with earlyUnits := c.earlyUnits + 1#32 }))
  | .down => s

/-! ### INIT (R144, R145, R157) -/

/-- A port that enters UP on an INIT carrying `credit` (R144, R157). -/
def LinkPort.enterUp (l : LinkPort) (credit : Nat) : LinkPort :=
  { l with
    state := .up
    peerCredit := credit
    peerCeiling := if credit = 0 then Config.creditMost else credit
    allowance := l.advertised
    initDue := none }

/-- A U port that withholds and enters UP after loading has ended grants its credit there (R158). -/
def State.grantAfterLoading (p : Port) (s : State) : State :=
  match p, s.mode with
  | .u, .safe => s.grantWithheld
  | .u, .normal => s.grantWithheld
  | .u, .loading => s
  | .d, _ => s

/-- An INIT is received (R144, R145). -/
def State.receiveInit (p : Port) (value : Byte) (s : State) : State :=
  match (s.port p).state with
  | .init => ((s.updatePort p (fun l => l.enterUp (initCredit value))).raise .link).grantAfterLoading p
  | .up => if initMark value then s else s.sendSymbol p initKind (initValue (s.port p).allowance true)
  | .down => s

/-! ### The send side (R153 to R156) -/

/-- How many packets stand at the head of the store up to and including the one numbered `n`, where it is stored
(R154). -/
def LinkPort.acknowledged (l : LinkPort) (n : BitVec 7) : Option Nat :=
  (l.replayStore.findIdx? (fun u => u.seq == n)).map (fun i => i + 1)

/-- A port once the first `k` packets of its store are acknowledged (R154). -/
def LinkPort.removeAcknowledged (l : LinkPort) (k : Nat) (now : Word) : LinkPort :=
  let rest := l.replayStore.drop k
  { l with
    replayStore := rest
    retryRun := 0
    replay := if rest.isEmpty then none else l.replay.map (fun resent => resent - k)
    ackTimer := if rest.isEmpty then none else if l.replay.isNone then some (now + Config.ackTime) else l.ackTimer }

/-- ACK(n) at a port; a number that names no stored packet changes nothing (R154). -/
def LinkPort.takeAck (l : LinkPort) (n : BitVec 7) (now : Word) : LinkPort :=
  match l.acknowledged n with
  | some k => l.removeAcknowledged k now
  | none => l

/-- An ACK is received; it acts in UP alone (R144, R154). -/
def State.receiveAck (p : Port) (n : BitVec 7) (s : State) : State :=
  if (s.port p).state == .up then s.updatePort p (fun l => l.takeAck n s.timeBase) else s

/-- A port that begins a replay from the head of its store (R156). -/
def LinkPort.beginReplay (l : LinkPort) : LinkPort :=
  { l with
    retryRun := l.retryRun + 1
    replay := some 0
    ackTimer := none
    counters := { l.counters with replays := l.counters.replays + 1#32 } }

/-- A replay begins, or the fifth in a row without progress resets the port (R156). -/
def State.replayBegins (p : Port) (s : State) : State :=
  if Config.retryRunEnd ≤ (s.port p).retryRun + 1 then s.resetPort p .retryExhausted
  else s.updatePort p LinkPort.beginReplay

/-- A RETRY is received: an ACK of the number before it, then a replay when it names the head of the store; it
acts in UP alone (R144, R155). -/
def State.receiveRetry (p : Port) (n : BitVec 7) (s : State) : State :=
  if (s.port p).state == .up then
    let s' := s.updatePort p (fun l => l.takeAck (n - 1#7) s.timeBase)
    match (s'.port p).replayStore with
    | head :: _ => if head.seq == n then s'.replayBegins p else s'
    | [] => s'
  else s

/-- A CREDIT is received; it acts in UP alone (R144, R157). -/
def State.receiveCredit (p : Port) (k : Nat) (s : State) : State :=
  if (s.port p).state == .up then
    s.updatePort p (fun l => { l with peerCredit := min (l.peerCredit + k) l.peerCeiling })
  else s

/-- A RESET is received: a reset of the port in INIT or UP (R147). -/
def State.receiveReset (p : Port) (s : State) : State :=
  match (s.port p).state with
  | .up => s.resetPort p .peerReset
  | .init => s.resetPort p .peerReset
  | .down => s

/-- A bad symbol is discarded and counted (R143); a symbol that is not bad is no BAD_SYMBOL, and a port in DOWN
takes nothing. -/
def State.receiveBadSymbol (p : Port) (kind value check : Byte) (s : State) : State :=
  if symbolIsBad kind value check && (s.port p).state != .down then
    s.updatePort p (fun l => l.count (fun c => { c with badSymbols := c.badSymbols + 1#32 }))
  else s

/-- The INIT is sent again once 10 µs have passed in INIT (R144). -/
def State.sendInitAgain (p : Port) (s : State) : State :=
  match (s.port p).state, (s.port p).initDue with
  | .init, some due =>
    if deadlineReached s.timeBase due then
      (s.sendSymbol p initKind (initValue (s.port p).advertised false)).updatePort p
        (fun l => { l with initDue := some (due + Config.initTime) })
    else s
  | _, _ => s

/-- The acknowledgement timer is reached with packets stored and no replay in progress (R156). -/
def State.ackTimerReached (p : Port) (s : State) : State :=
  let l := s.port p
  match l.ackTimer with
  | some due =>
    if l.state == .up && deadlineReached s.timeBase due && !l.replayStore.isEmpty && l.replay.isNone then
      s.replayBegins p
    else s
  | none => s

/-- A port after it has resent the packet at place `i` of its store: after the last the replay ends (R156). -/
def LinkPort.resent (l : LinkPort) (i : Nat) (now : Word) : LinkPort :=
  let counted := l.count (fun c => { c with unitsResent := c.unitsResent + 1#32 })
  if i + 1 < l.replayStore.length then { counted with replay := some (i + 1) }
  else { counted with replay := none, ackTimer := some (now + Config.ackTime) }

/-- One stored unit is resent unchanged during a replay (R156). -/
def State.resendOne (p : Port) (s : State) : State :=
  let l := s.port p
  match l.state, l.replay with
  | .up, some i =>
    match l.replayStore[i]? with
    | some u => (s.sendUnit p u).updatePort p (fun l => l.resent i s.timeBase)
    | none => s
  | _, _ => s

/-- The owed acknowledgement is sent, naming the newest unit accepted (R149). -/
def State.sendAck (p : Port) (s : State) : State :=
  let l := s.port p
  if l.state == .up && l.ackOwed then
    (s.sendSymbol p ackKind (seqValue (l.expectedSeq - 1#7))).updatePort p (fun l => { l with ackOwed := false })
  else s

/-- The owed credit is sent as CREDIT(k), at most 16 (R158). -/
def State.sendOwedCredit (p : Port) (s : State) : State :=
  let l := s.port p
  let k := min l.owedCredit Config.inboundSlots
  if l.state == .up && 0 < l.owedCredit then
    (s.sendCredit p k).updatePort p (fun l => { l with owedCredit := l.owedCredit - k })
  else s

/-- The U port sends the head of the reply queue as a new packet (R153, R161). -/
def State.sendReply (s : State) : State :=
  match s.replyQueue with
  | r :: rest =>
    if s.uPort.canSend then State.noteReplySlot ({ s with replyQueue := rest }.sendPacket .u (writeReply r)) else s
  | [] => s

/-! ### The commands of the family -/

/-- LINK_UNIT_RECEIVE (R148). -/
def execLinkUnitReceive (p : Port) (bytes : List Byte) (s : State) : Host.Outcome State Fault Refusal :=
  .next (s.receiveUnit p bytes)

/-- INIT_RECEIVE (R144, R145). -/
def execInitReceive (p : Port) (value : Byte) (s : State) : Host.Outcome State Fault Refusal :=
  .next (s.receiveInit p value)

/-- ACK_RECEIVE (R154). -/
def execAckReceive (p : Port) (value : Byte) (s : State) : Host.Outcome State Fault Refusal :=
  .next (s.receiveAck p (symbolSeq value))

/-- RETRY_RECEIVE (R155). -/
def execRetryReceive (p : Port) (value : Byte) (s : State) : Host.Outcome State Fault Refusal :=
  .next (s.receiveRetry p (symbolSeq value))

/-- CREDIT_RECEIVE (R157). -/
def execCreditReceive (p : Port) (value : Byte) (s : State) : Host.Outcome State Fault Refusal :=
  .next (s.receiveCredit p (creditCount value))

/-- RESET_RECEIVE (R147); its value byte is ignored (Table 12-4). -/
def execResetReceive (p : Port) (_value : Byte) (s : State) : Host.Outcome State Fault Refusal :=
  .next (s.receiveReset p)

/-- BAD_SYMBOL (R143). -/
def execBadSymbol (p : Port) (kind value check : Byte) (s : State) : Host.Outcome State Fault Refusal :=
  .next (s.receiveBadSymbol p kind value check)

/-- INIT_RESEND (R144). -/
def execInitResend (p : Port) (s : State) : Host.Outcome State Fault Refusal := .next (s.sendInitAgain p)

/-- ACKNOWLEDGEMENT_TIMER (R156). -/
def execAcknowledgementTimer (p : Port) (s : State) : Host.Outcome State Fault Refusal := .next (s.ackTimerReached p)

/-- RESEND (R156). -/
def execResend (p : Port) (s : State) : Host.Outcome State Fault Refusal := .next (s.resendOne p)

/-- ACK_SEND (R149). -/
def execAckSend (p : Port) (s : State) : Host.Outcome State Fault Refusal := .next (s.sendAck p)

/-- CREDIT_SEND (R158). -/
def execCreditSend (p : Port) (s : State) : Host.Outcome State Fault Refusal := .next (s.sendOwedCredit p)

/-- REPLY_SEND (R161). -/
def execReplySend (s : State) : Host.Outcome State Fault Refusal := .next s.sendReply

end Sys2Proof.Machine
end

