-- ==== Sys2Proof/Machine/Loading.lean ====
section
/-! DEFINITION. Reset, the image loader and the end of validation (spec/10_start_up_and_the_configuration_image.md,
R16, R17), with the layouts of the words that the image shares with the aperture (spec/11_formats.md). -/
namespace Sys2Proof.Machine

/-! ### Fields of writable words (Table 12-7, R33, R55, R120, R172) -/

/-- The outstanding limit of a written word: 0 is taken as 1, above 16 as 16 (R33). -/
def writtenLimit (value : Word) : Nat := max 1 (min 16 (bits value 8 5))

/-- The management right of a written word. -/
def writtenRight (value : Word) : Bool := value.getLsbD 0

/-- The reply timeout of a written word, below 16 taken as 16 (R55). -/
def writtenTimeout (value : Word) : BitVec 16 :=
  if (value.extractLsb' 0 16).toNat < Config.timeoutLeast.toNat then Config.timeoutLeast
  else value.extractLsb' 0 16

/-- The notice requester of a written word: absent when bit 7 is clear (R172). -/
def writtenNoticeRequester (value : Word) : Option (Fin 16) :=
  if value.getLsbD 7 then some (requesterOf (value.extractLsb' 0 4)) else none

/-- The enabled cause set of a written word. -/
def writtenCauses (value : Word) : BitVec 6 := value.extractLsb' 8 6

/-- The page count of a written word, above 16,777,216 taken as that (R172). -/
def writtenPageCount (value : Word) : BitVec 25 :=
  if Config.pageCountMost.toNat < (value.extractLsb' 0 25).toNat then Config.pageCountMost
  else value.extractLsb' 0 25

/-- Word `w` of a region entry replaces the fields it carries (R2, Table 12-7). -/
def RegionEntry.writeWord (e : RegionEntry) (w : Fin 4) (value : Word) : RegionEntry :=
  match w with
  | 0 =>
    { e with
      upstreamBase := value.extractLsb' 0 24
      digest := value.getLsbD 29
      mode := if value.getLsbD 30 then .confirm else .posted
      valid := value.getLsbD 31 }
  | 1 => { e with pageCount := writtenPageCount value }
  | 2 => { e with downstreamBase := value.extractLsb' 0 24 }
  | 3 => { e with readSet := value.extractLsb' 0 16, writeSet := value.extractLsb' 16 16 }

/-! ### Power-on values (R138, R163) -/

/-- Every block at its power-on reset values. The command queue and the record of what was sent are not blocks. -/
def State.powerOn (s : State) : State := { State.reset with pending := s.pending, wire := s.wire }

/-- The image loader begins its read: select active, 03h and three zero bytes (R164). -/
def State.beginLoad (s : State) : State :=
  { s with
    loader := some []
    serialSelect := true
    wire := s.wire ++ [.serial 0x03#8, .serial 0x00#8, .serial 0x00#8, .serial 0x00#8] }

/-- The start after reset: the time base counts from 0, both ports enter INIT, the loader begins (R163). -/
def State.startUp (s : State) : State :=
  State.beginLoad (({ s.powerOn with resetHeld := false }.downAndInit .u).downAndInit .d)

/-- The reset pin is made active (R163). -/
def State.assertReset (s : State) : State := s.powerOn

/-- The reset pin is released; a pin that is not held is not released (R163). -/
def State.releaseReset (s : State) : State := if s.resetHeld then s.startUp else s

/-! ### The image (R164 to R168) -/

/-- A word of the image, 0 where it has not been read. -/
def imageWordAt (words : List Word) (k : Nat) : Word := words.getD k 0#32

/-- The region count n of the image. -/
def imageCount (words : List Word) : Nat := (imageWordAt words 2).toNat

/-- What the words read so far decide (R165). -/
inductive ImageVerdict where
  | more
  | fail (cause : ImageCause)
  | good
  deriving DecidableEq, Repr

/-- Whether a requester word gives the management right (R165). -/
def imageHasManager (words : List Word) : Bool :=
  (List.range 16).any (fun q => writtenRight (imageWordAt words (3 + q)))

/-- The checks due after the last word read (R165). -/
def judgeImage (words : List Word) : ImageVerdict :=
  match words.length with
  | 0 => .more
  | 1 => if imageWordAt words 0 != Config.imageSignature then .fail .absent else .more
  | 2 => if imageWordAt words 1 != 1#32 then .fail .format else .more
  | 3 => if 64 < imageCount words then .fail .format else .more
  | n =>
    if n < 22 + 4 * imageCount words then .more
    else if words.foldl (· + ·) 0#32 != 0#32 then .fail .sum
    else if !imageHasManager words then .fail .format
    else .good

/-- The requester record that a good image gives requester `q` (R166). -/
def imageRequester (words : List Word) (r : RequesterRecord) (q : Nat) : RequesterRecord :=
  { r with right := writtenRight (imageWordAt words (3 + q)), limit := writtenLimit (imageWordAt words (3 + q)) }

/-- The image's region entry `k` written over `e` (R166). -/
def imageEntry (words : List Word) (e : RegionEntry) (k : Nat) : RegionEntry :=
  (((e.writeWord 0 (imageWordAt words (21 + 4 * k))).writeWord 1 (imageWordAt words (22 + 4 * k))).writeWord 2
    (imageWordAt words (23 + 4 * k))).writeWord 3 (imageWordAt words (24 + 4 * k))

/-- A table with every record changed by a function of its index. -/
def mapTableIndexed {α : Type} {n : Nat} (f : Nat → α → α) (v : Vector α n) : Vector α n :=
  ⟨⟨v.toList.mapIdx f⟩, by simp⟩

/-- The staging bank that a good image gives: entries 0 to n − 1 (R21, R166). -/
def imageStaging (words : List Word) (bank : Bank) : Bank :=
  mapTableIndexed (fun k e => if k < imageCount words then imageEntry words e k else e) bank

/-- Select goes inactive and the read is over (R164). -/
def State.endRead (s : State) : State := { s with loader := none, serialSelect := false }

/-- A good image fills the tables and starts the image commit (R166). -/
def State.loadImage (words : List Word) (s : State) : State :=
  { s.endRead with
    requesters := mapTableIndexed (fun q r => imageRequester words r q) s.requesters
    replyTimeout := writtenTimeout (imageWordAt words 19)
    noticeRequester := writtenNoticeRequester (imageWordAt words 20)
    enabledCauses := writtenCauses (imageWordAt words 20)
    staging := imageStaging words s.staging
    command := CommandStatus.commitBegun 0#16 none }

/-- The SAFE defaults of the requester table: requester 0 alone manages (R168). -/
def safeRequesters : Vector RequesterRecord 16 :=
  (Vector.replicate 16 RequesterRecord.reset).set 0 { RequesterRecord.reset with right := true }

/-- A load that fails (R168), and with it the end of loading (R169). -/
def State.failLoad (cause : ImageCause) (index : Option (Fin 64)) (other : Option (Fin 64)) (s : State) : State :=
  State.grantWithheld { s.takeFault { kind := .image, region := index, detail := some (.image cause other) } with
    requesters := safeRequesters
    replyTimeout := Config.timeoutReset
    noticeRequester := none
    enabledCauses := 0#6
    mode := .safe }

/-- The loader takes one word while it reads (R164, R165). -/
def State.takeImageWord (w : Word) (s : State) : State :=
  match s.loader with
  | none => s
  | some words =>
    match judgeImage (words ++ [w]) with
    | .more => { s with loader := some (words ++ [w]) }
    | .fail cause => s.endRead.failLoad cause none none
    | .good => s.loadImage (words ++ [w])

/-! ### The end of validation (R16, R17, R167) -/

/-- Validation has failed at an entry: INVALID, and for the image commit a failed load (R16, R167, R168). -/
def State.validationFails (i : Fin 64) (cause : ValidationCause) (other : Option (Fin 64)) (s : State) : State :=
  let s' := ({ s with command := s.command.commitInvalid i cause other }).raise .command
  if s.mode == .loading then s'.failLoad (.validation cause) (some i) other else s'

/-- Validation has passed: DRAIN, and the swap at once when the previous generation has drained (R16, R17). -/
def State.validationPasses (s : State) : State :=
  State.swapIfDrained { s with command := { s.command with phase := some .drain } }

/-- The end of the validation in progress (R15, R16). -/
def State.endValidation (s : State) : State :=
  if s.command.busy && s.command.phase == some .validate then
    match validate s.staging with
    | some (i, cause, other) => s.validationFails i cause other
    | none => s.validationPasses
  else s

/-! ### The commands of the family -/

/-- RESET_ASSERT (R163). -/
def execResetAssert (s : State) : Host.Outcome State Fault Refusal := .next s.assertReset

/-- RESET_RELEASE (R163). -/
def execResetRelease (s : State) : Host.Outcome State Fault Refusal := .next s.releaseReset

/-- IMAGE_WORD (R164): the first byte received is bits 7 to 0. -/
def execImageWord (b0 b1 b2 b3 : Byte) (s : State) : Host.Outcome State Fault Refusal :=
  .next (s.takeImageWord (bytesWord b0 b1 b2 b3))

/-- VALIDATION_END (R16). -/
def execValidationEnd (s : State) : Host.Outcome State Fault Refusal := .next s.endValidation

end Sys2Proof.Machine
end

