-- ==== Sys2Proof/Machine/Commands.lean ====
section
/-! DEFINITION. The command unit and the command set (spec/08_the_management_aperture.md 9.3 and 9.4, and the rules
of Table 9-3). -/
namespace Sys2Proof.Machine

/-! ### Hand-over, replies and refusals (R127, R130, R132) -/

/-- What admission has established when it hands a management write over: the U port is UP and loading has ended,
the requester is OPEN and holds the right, and a reply slot is free for a CW (9.1, R40, R45). -/
def State.handsOver (s : State) (a : Access) : Bool :=
  s.uPort.state == .up && s.mode != .loading && (s.requesters[a.requester]).state == .opened &&
    (s.requesters[a.requester]).right && (!a.confirmed || s.replySlot)

/-- A management row: `act` when the access can be handed over; otherwise there is no such event (log entry 5). -/
def State.handed (a : Access) (act : State → State) (s : State) : State :=
  if s.handsOver a then act s else s

/-- The reply to a CW; a PW gets none (R127). -/
def State.answer (a : Access) (status : Status) (s : State) : State :=
  if a.confirmed then s.placeReply (.completion a.requester a.tag status []) else s

/-- The upstream address of an aperture word. -/
def apertureAddress (offset : Nat) : Address := BitVec.ofNat 36 (Config.apertureBase + offset)

/-- A refused management write: a CW is answered BUSY, a PW dropped with MGMT_BUSY (R130, R86). -/
def State.refuseBusy (a : Access) (offset : Nat) (s : State) : State :=
  if a.confirmed then s.answer a .busy
  else
    s.takeFault { kind := .mgmtBusy, port := some .u, requester := some a.requester,
                  address := some (apertureAddress offset) }

/-- What a command does besides its status and its reply, and the result it gives. -/
abbrev Effect := State → State × Result

/-- A command other than COMMIT, CANCEL and RESTART: refused while BUSY, otherwise taken: effect, status, reply
(R130, R132). -/
def State.takeCommand (a : Access) (code : Byte) (operand : BitVec 16) (effect : Effect) (s : State) : State :=
  if s.command.busy then s.refuseBusy a 0
  else
    let done := effect s
    State.answer a .ok { done.1 with command := CommandStatus.record code operand a.requester done.2 }

/-- The effect of a command with a region index operand: RANGE above 63 (R133). -/
def withRegion (operand : BitVec 16) (effect : Fin 64 → Effect) : Effect := fun s =>
  if h : operand.toNat < 64 then effect ⟨operand.toNat, h⟩ s else (s, .range)

/-- The effect of a command with a requester operand: RANGE above 15 (R133). -/
def withRequester (operand : BitVec 16) (effect : Fin 16 → Effect) : Effect := fun s =>
  if h : operand.toNat < 16 then effect ⟨operand.toNat, h⟩ s else (s, .range)

/-- The effect of a command with a channel operand: RANGE above 1 (R133). -/
def withChannel (operand : BitVec 16) (effect : Fin 2 → Effect) : Effect := fun s =>
  if h : operand.toNat < 2 then effect ⟨operand.toNat, h⟩ s else (s, .range)

/-! ### COMMIT, CANCEL, REVERT (R14, R19, R20, R134, R135) -/

/-- COMMIT: BUSY with phase VALIDATE, or refused while BUSY (R14, R130, R134). -/
def State.takeCommit (a : Access) (operand : BitVec 16) (s : State) : State :=
  if s.command.busy then s.refuseBusy a 0
  else State.answer a .ok { s with command := CommandStatus.commitBegun operand (some a.requester) }

/-- CANCEL: ends a running commit with CANCELLED, or records NOTHING when IDLE (R19, R135). -/
def State.takeCancel (a : Access) (operand : BitVec 16) (s : State) : State :=
  let code := commandCode .cancel
  if s.command.busy then
    State.answer a .ok
      (({ s with command := CommandStatus.record code operand a.requester .cancelled }).raise .command)
  else State.answer a .ok { s with command := CommandStatus.record code operand a.requester .nothing }

/-- REVERT copies the active bank into the staging bank (R20). -/
def revertEffect : Effect := fun s => ({ s with staging := s.active }, .done)

/-! ### QUIESCE, RESUME, DIGEST_CLEAR (R22, R24, R110) -/

/-- QUIESCE r (R22). -/
def quiesceEffect (r : Fin 64) : Effect := fun s =>
  let status := s.regions[r]
  match status.runState with
  | .opened =>
    if status.inFlight = 0 then ((s.setRegion r { status with runState := .quiesced }).raise .quiesced, .done)
    else (s.setRegion r { status with runState := .quiescing }, .done)
  | .quiescing => (s, .state)
  | .quiesced => (s, .state)

/-- RESUME r (R24). -/
def resumeEffect (r : Fin 64) : Effect := fun s =>
  let status := s.regions[r]
  match status.runState with
  | .opened => (s, .state)
  | .quiescing => (s.setRegion r { status with runState := .opened }, .done)
  | .quiesced => (s.setRegion r { status with runState := .opened }, .done)

/-- DIGEST_CLEAR r (R110). -/
def digestClearEffect (r : Fin 64) : Effect := fun s => (s.setDigest r Digest.reset, .done)

/-! ### FENCE, UNFENCE (R47, R48, R54, R76) -/

/-- Whether a tag is freed by the flush of requester `q`: an entry of `q` in the issue queue holds it (R54). -/
def flushes (queue : List IssueEntry) (q : Fin 16) (t : Fin 48) : Bool :=
  queue.any (fun e => e.requester == q && e.tag == some t)

/-- The flush frees tag `t` from QUEUED when a removed entry holds it (R54). -/
def State.flushTag (queue : List IssueEntry) (q : Fin 16) (s : State) (t : Fin 48) : State :=
  if flushes queue q t && (s.tags[t]).state == .queued then s.freeTag t else s

/-- A removed entry without a tag ends its in-flight item (R47). -/
def State.flushUntagged (s : State) (e : IssueEntry) : State :=
  if e.tag.isNone then s.fall e.index e.generation else s

/-- The fence flush: every entry of `q` leaves the queue, its tags are freed in increasing number and its untagged
items end; one FENCE_FLUSH fault counts the entries (R47, R54, R76). -/
def State.fenceFlush (q : Fin 16) (s : State) : State :=
  let removed := s.issueQueue.filter (fun e => e.requester == q)
  let s1 := { s with issueQueue := s.issueQueue.filter (fun e => e.requester != q) }
  let s2 := (List.finRange 48).foldl (State.flushTag s.issueQueue q) s1
  let s3 := removed.foldl State.flushUntagged s2
  let s4 := if removed.isEmpty then s3 else s3.noteIssueSlot
  s4.takeFault { kind := .fenceFlush, port := some .u, requester := some q, detail := some (.entries removed.length) }

/-- FENCE q (R47). -/
def fenceEffect (issuer : Fin 16) (q : Fin 16) : Effect := fun s =>
  if q = issuer then (s, .denied)
  else if (s.requesters[q]).state == .fenced then (s, .state)
  else ((s.setRequester q { s.requesters[q] with state := .fenced }).fenceFlush q, .done)

/-- UNFENCE q (R48). -/
def unfenceEffect (q : Fin 16) : Effect := fun s =>
  if (s.requesters[q]).state == .fenced then (s.setRequester q { s.requesters[q] with state := .opened }, .done)
  else (s, .state)

/-! ### LOG_POP, LOG_CLEAR, NOTICE_ARM, NOTICE_ACK (R117, R118, R123, R124) -/

/-- LOG_POP (R117). -/
def logPopEffect : Effect := fun s =>
  match s.faultLog with
  | _ :: rest => ({ s with faultLog := rest }, .done)
  | [] => (s, .empty)

/-- LOG_CLEAR (R118). -/
def logClearEffect : Effect := fun s => ({ s with faultLog := [], lostCount := 0 }, .done)

/-- NOTICE_ARM (R123). -/
def noticeArmEffect : Effect := fun s => ({ s with armed := true }, .done)

/-- NOTICE_ACK s: the cause set stands in bits 5 to 0 of the operand (R124, Table 12-7). -/
def noticeAckEffect (operand : BitVec 16) : Effect := fun s =>
  ({ s with pendingCauses := s.pendingCauses &&& ~~~(operand.extractLsb' 0 6) }, .done)

/-! ### CHANNEL_START, CHANNEL_STOP, CHANNEL_RESUME (R89, R102, R103) -/

/-- CHANNEL_START c (R89). -/
def channelStartEffect (c : Fin 2) : Effect := fun s =>
  let ch := s.channels[c]
  if ch.state == .idle || ch.state == .halted then ((s.setChannel c ch.start).formNext c, .done) else (s, .state)

/-- CHANNEL_STOP c (R102). -/
def channelStopEffect (c : Fin 2) : Effect := fun s =>
  if (s.channels[c]).running then (s.enterDrain c .stopped none none, .done) else (s, .state)

/-- CHANNEL_RESUME c (R103). -/
def channelResumeEffect (c : Fin 2) : Effect := fun s =>
  let ch := s.channels[c]
  if ch.state == .halted then ((s.setChannel c ch.resumed).formNext c, .done) else (s, .state)

/-! ### LINK_RETRAIN, COUNTERS_CLEAR, RESTART (R136 to R138) -/

/-- LINK_RETRAIN p: 0 for the U port, 1 for the D port (R133, R136). -/
def linkRetrainEffect (operand : BitVec 16) : Effect := fun s =>
  if operand = 0#16 then (s.resetPort .u .command, .done)
  else if operand = 1#16 then (s.resetPort .d .command, .done)
  else (s, .range)

/-- A requester record with its counters at 0 (R36). -/
def RequesterRecord.clearCounters (r : RequesterRecord) : RequesterRecord :=
  { r with admitted := 0#32, refused := 0#32, retried := 0#32 }

/-- COUNTERS_CLEAR (R137). -/
def countersClearEffect : Effect := fun s =>
  ({ s with
      requesters := mapTable RequesterRecord.clearCounters s.requesters
      uPort := { s.uPort with counters := PortCounters.zero }
      dPort := { s.dPort with counters := PortCounters.zero }
      discardedReplies := 0#32 }, .done)

/-- The RESET symbol of a port that is in INIT or UP, before a RESTART (R138). -/
def State.announceRestart (p : Port) (s : State) : State :=
  match (s.port p).state with
  | .down => s
  | .init => s.sendSymbol p resetKind 0x00#8
  | .up => s.sendSymbol p resetKind 0x00#8

/-- RESTART: the state of a power-on reset and a new image load, or refused while BUSY (R130, R138). Its reply is
not sent. -/
def State.takeRestart (a : Access) (s : State) : State :=
  if s.command.busy then s.refuseBusy a 0 else ((s.announceRestart .u).announceRestart .d).startUp

/-- A command word with an unknown code: taken with result RANGE (R133). -/
def unknownEffect : Effect := fun s => (s, .range)

/-! ### The commands of the family -/

/-- COMMIT (R134). -/
def execCommit (a : Access) (operand : BitVec 16) (s : State) : Host.Outcome State Fault Refusal :=
  .next (s.handed a (State.takeCommit a operand))

/-- CANCEL (R135). -/
def execCancel (a : Access) (operand : BitVec 16) (s : State) : Host.Outcome State Fault Refusal :=
  .next (s.handed a (State.takeCancel a operand))

/-- REVERT (R20). -/
def execRevert (a : Access) (operand : BitVec 16) (s : State) : Host.Outcome State Fault Refusal :=
  .next (s.handed a (State.takeCommand a (commandCode .revert) operand revertEffect))

/-- QUIESCE r (R22). -/
def execQuiesce (a : Access) (operand : BitVec 16) (s : State) : Host.Outcome State Fault Refusal :=
  .next (s.handed a (State.takeCommand a (commandCode .quiesce) operand (withRegion operand quiesceEffect)))

/-- RESUME r (R24). -/
def execResume (a : Access) (operand : BitVec 16) (s : State) : Host.Outcome State Fault Refusal :=
  .next (s.handed a (State.takeCommand a (commandCode .resume) operand (withRegion operand resumeEffect)))

/-- DIGEST_CLEAR r (R110). -/
def execDigestClear (a : Access) (operand : BitVec 16) (s : State) : Host.Outcome State Fault Refusal :=
  .next (s.handed a (State.takeCommand a (commandCode .digestClear) operand (withRegion operand digestClearEffect)))

/-- FENCE q (R47). -/
def execFence (a : Access) (operand : BitVec 16) (s : State) : Host.Outcome State Fault Refusal :=
  .next (s.handed a
    (State.takeCommand a (commandCode .fence) operand (withRequester operand (fenceEffect a.requester))))

/-- UNFENCE q (R48). -/
def execUnfence (a : Access) (operand : BitVec 16) (s : State) : Host.Outcome State Fault Refusal :=
  .next (s.handed a (State.takeCommand a (commandCode .unfence) operand (withRequester operand unfenceEffect)))

/-- LOG_POP (R117). -/
def execLogPop (a : Access) (operand : BitVec 16) (s : State) : Host.Outcome State Fault Refusal :=
  .next (s.handed a (State.takeCommand a (commandCode .logPop) operand logPopEffect))

/-- LOG_CLEAR (R118). -/
def execLogClear (a : Access) (operand : BitVec 16) (s : State) : Host.Outcome State Fault Refusal :=
  .next (s.handed a (State.takeCommand a (commandCode .logClear) operand logClearEffect))

/-- NOTICE_ARM (R123). -/
def execNoticeArm (a : Access) (operand : BitVec 16) (s : State) : Host.Outcome State Fault Refusal :=
  .next (s.handed a (State.takeCommand a (commandCode .noticeArm) operand noticeArmEffect))

/-- NOTICE_ACK s (R124). -/
def execNoticeAck (a : Access) (operand : BitVec 16) (s : State) : Host.Outcome State Fault Refusal :=
  .next (s.handed a (State.takeCommand a (commandCode .noticeAck) operand (noticeAckEffect operand)))

/-- CHANNEL_START c (R89). -/
def execChannelStart (a : Access) (operand : BitVec 16) (s : State) : Host.Outcome State Fault Refusal :=
  .next (s.handed a (State.takeCommand a (commandCode .channelStart) operand (withChannel operand channelStartEffect)))

/-- CHANNEL_STOP c (R102). -/
def execChannelStop (a : Access) (operand : BitVec 16) (s : State) : Host.Outcome State Fault Refusal :=
  .next (s.handed a (State.takeCommand a (commandCode .channelStop) operand (withChannel operand channelStopEffect)))

/-- CHANNEL_RESUME c (R103). -/
def execChannelResume (a : Access) (operand : BitVec 16) (s : State) : Host.Outcome State Fault Refusal :=
  .next (s.handed a
    (State.takeCommand a (commandCode .channelResume) operand (withChannel operand channelResumeEffect)))

/-- LINK_RETRAIN p (R136). -/
def execLinkRetrain (a : Access) (operand : BitVec 16) (s : State) : Host.Outcome State Fault Refusal :=
  .next (s.handed a (State.takeCommand a (commandCode .linkRetrain) operand (linkRetrainEffect operand)))

/-- COUNTERS_CLEAR (R137). -/
def execCountersClear (a : Access) (operand : BitVec 16) (s : State) : Host.Outcome State Fault Refusal :=
  .next (s.handed a (State.takeCommand a (commandCode .countersClear) operand countersClearEffect))

/-- RESTART (R138); its operand is ignored, and its status is not recorded. -/
def execRestart (a : Access) (_operand : BitVec 16) (s : State) : Host.Outcome State Fault Refusal :=
  .next (s.handed a (State.takeRestart a))

/-- UNKNOWN_COMMAND (R133); a known code is no unknown command. -/
def execUnknownCommand (a : Access) (code : Byte) (operand : BitVec 16) (s : State) :
    Host.Outcome State Fault Refusal :=
  .next (if (commandOf code).isNone then s.handed a (State.takeCommand a code operand unknownEffect) else s)

end Sys2Proof.Machine
end

