-- ==== Sys2Proof/Machine/Issue.lean ====
section
/-! DEFINITION. The issue arbiter and the digests (spec/04_downstream_issue.md, spec/06_write_digests.md). -/
namespace Sys2Proof.Machine

/-- Whether the candidate of a place is present (Table 5-2, R78). -/
def State.candidatePresent (s : State) : Candidate → Bool
  | .queue => !s.issueQueue.isEmpty
  | .channel0 => (s.channels[(0 : Fin 2)]).candidate
  | .channel1 => (s.channels[(1 : Fin 2)]).candidate

/-- The places in cyclic order, beginning after the last granted (R80). -/
def rotation : Candidate → List Candidate
  | .queue => [.channel0, .channel1, .queue]
  | .channel0 => [.channel1, .queue, .channel0]
  | .channel1 => [.queue, .channel0, .channel1]

/-- The place a grant goes to (R80). -/
def State.nextGrant (s : State) : Option Candidate := (rotation s.lastGranted).find? s.candidatePresent

/-- The words of the request packet formed from an issue entry; a posted write carries tag 0 (R81). -/
def issuePacket (e : IssueEntry) : List Word :=
  writeRequest e.kind e.requester (match e.tag with
    | some t => t.val
    | none => 0) e.address e.wordCount e.firstEnables e.lastEnables e.data

/-- A digest record that has absorbed a write (R107). -/
def Digest.absorb (d : Digest) (e : IssueEntry) (writer : Writer) : Digest :=
  { sum := d.sum + maskedSum e.firstEnables e.lastEnables e.data
    wordCount := d.wordCount + BitVec.ofNat 32 e.wordCount
    lastWriter := some writer }

/-- An issued write is absorbed when the active entry at its index has digest on, valid or absent (R83, R107). -/
def State.absorb (e : IssueEntry) (writer : Writer) (s : State) : State :=
  if e.kind != .rd && (s.active[e.index]).digest then
    s.setDigest e.index ((s.digests[e.index]).absorb e writer)
  else s

/-- What issue does to the item: a tagged request's tag becomes WAITING, an untagged write ends its item (R82). -/
def State.settleIssue (e : IssueEntry) (s : State) : State :=
  match e.tag with
  | some t => s.issueTag t
  | none => s.fall e.index e.generation

/-- A granted request is sent, absorbed and settled, in that order (R81, R82, R83; log entry 12). -/
def State.issue (e : IssueEntry) (writer : Writer) (s : State) : State :=
  (((s.sendPacket .d (issuePacket e)).absorb e writer).settleIssue e)

/-- The head of the issue queue is issued and leaves the queue (R75, R82). -/
def State.grantQueue (s : State) : State :=
  match s.issueQueue with
  | e :: rest => State.noteIssueSlot ({ s with issueQueue := rest, lastGranted := .queue }.issue e (.requester e.requester))
  | [] => s

/-- The formed request of channel `c` is issued; the channel then weighs its next one (R82, R91, R99). -/
def State.grantChannel (c : Fin 2) (place : Candidate) (s : State) : State :=
  match (s.channels[c]).formed with
  | some f =>
    ((({ s with lastGranted := place }.setChannel c { s.channels[c] with formed := none }).issue f.entry
      (.channel c)).advance c)
  | none => s

/-- One grant, when the D port's send side can take a packet and a candidate is present (R79, R80). -/
def State.grant (s : State) : State :=
  if s.dPort.canSend then
    match s.nextGrant with
    | some .queue => s.grantQueue
    | some .channel0 => s.grantChannel 0 .channel0
    | some .channel1 => s.grantChannel 1 .channel1
    | none => s
  else s

/-- GRANT (R80). -/
def execGrant (s : State) : Host.Outcome State Fault Refusal := .next s.grant

end Sys2Proof.Machine
end

