-- ==== Sys2Proof/Machine/Windows.lean ====
section
/-! DEFINITION. What a management read returns: every word of the aperture (R127, R129, R172, Table 12-7). A bit
that carries no field reads 0. -/
namespace Sys2Proof.Machine

/-! ### Encodings (Tables 12-1 and 12-3) -/

/-- Code of a run state. -/
def runStateCode : RunState → Nat
  | .opened => 0
  | .quiescing => 1
  | .quiesced => 2

/-- Code of a tag state. -/
def tagStateCode : TagState → Nat
  | .free => 0
  | .queued => 1
  | .waiting => 2
  | .expired => 3
  | .closing => 4

/-- Code of a tag owner. -/
def tagOwnerCode : TagOwner → Nat
  | .requester => 0
  | .gate => 1
  | .channel => 2

/-- Code of a channel state. -/
def channelStateCode : ChannelState → Nat
  | .idle => 0
  | .fetch => 1
  | .run => 2
  | .drain => 3
  | .halted => 4

/-- Code of a halt cause. -/
def haltCauseCode : HaltCause → Nat
  | .none => 0
  | .stopped => 1
  | .refused => 2
  | .paused => 3
  | .targetError => 4
  | .timeout => 5
  | .linkDown => 6
  | .badDescriptor => 7

/-- Code of a gate mode. -/
def modeCode : GateMode → Nat
  | .loading => 0
  | .safe => 1
  | .normal => 2

/-- Code of a phase. -/
def phaseCode : Option Phase → Nat
  | none => 0
  | some .validate => 1
  | some .drain => 2

/-- Code of a command result. -/
def resultCode : Option Result → Nat
  | none => 0
  | some .done => 1
  | some .invalid => 2
  | some .cancelled => 3
  | some .state => 4
  | some .denied => 5
  | some .range => 6
  | some .empty => 7
  | some .nothing => 8

/-- Code of a validation cause. -/
def validationCauseCode : ValidationCause → Nat
  | .countZero => 1
  | .upWrap => 2
  | .downWrap => 3
  | .aperture => 4
  | .overlap => 5

/-- Code of a validation cause that may be absent. -/
def invalidCauseCode : Option ValidationCause → Nat
  | none => 0
  | some cause => validationCauseCode cause

/-- Code of the last granted candidate. -/
def candidateCode : Candidate → Nat
  | .queue => 0
  | .channel0 => 1
  | .channel1 => 2

/-- Code of a fault port. -/
def faultPortCode : Option Port → Nat
  | none => 0
  | some .u => 1
  | some .d => 2

/-- Code of a fault kind (Table 12-3). -/
def faultKindCode : FaultKind → Nat
  | .malformed => 1
  | .fenced => 2
  | .mgmtDenied => 3
  | .mgmtBusy => 4
  | .mgmtLockout => 5
  | .noRegion => 6
  | .span => 7
  | .permission => 8
  | .paused => 9
  | .linkDown => 10
  | .targetError => 11
  | .timeout => 12
  | .lateCompletion => 13
  | .orphanCompletion => 14
  | .unexpectedPacket => 15
  | .fenceFlush => 16
  | .linkReset => 17
  | .channelHalt => 18
  | .image => 19

/-- Detail code of a LINK_RESET record. -/
def resetCauseCode : ResetCause → Nat
  | .peerReset => 1
  | .retryExhausted => 2
  | .protocol => 3
  | .command => 4

/-- Detail code of an IMAGE record. -/
def imageCauseCode : ImageCause → Nat
  | .absent => 1
  | .format => 2
  | .sum => 3
  | .validation cause => 3 + validationCauseCode cause

/-- A field of `width` bits at `low` with its present bit; both 0 when it is absent (R172). -/
def optionField (x : Option Nat) (low width present : Nat) : Word :=
  match x with
  | some n => field n low width ||| flag true present
  | none => 0#32

/-! ### Words of the windows (Table 12-7) -/

/-- Command status. -/
def commandStatusWord (c : CommandStatus) (w : Fin 3) : Word :=
  match w with
  | 0 =>
    flag c.busy 0 ||| field (phaseCode c.phase) 1 2 ||| field (resultCode c.lastResult) 8 4 |||
      optionField (c.lastCommand.map BitVec.toNat) 16 8 24 ||| optionField (c.lastIssuer.map Fin.val) 28 4 27
  | 1 => field c.lastOperand.toNat 0 16
  | 2 =>
    optionField (c.invalidEntry.map Fin.val) 0 6 7 ||| field (invalidCauseCode c.invalidCause) 8 3 |||
      optionField (c.invalidOther.map Fin.val) 16 6 23

/-- Notice configuration. -/
def noticeConfigurationWord (s : State) : Word :=
  optionField (s.noticeRequester.map Fin.val) 0 4 7 ||| field s.enabledCauses.toNat 8 6

/-- Requester record. -/
def requesterWord (r : RequesterRecord) (w : Fin 5) : Word :=
  match w with
  | 0 => flag r.right 0 ||| field r.limit 8 5
  | 1 => flag (r.state == .fenced) 0 ||| field r.outstanding 8 5
  | 2 => r.admitted
  | 3 => r.refused
  | 4 => r.retried

/-- Region entry. -/
def regionEntryWord (e : RegionEntry) (w : Fin 4) : Word :=
  match w with
  | 0 =>
    field e.upstreamBase.toNat 0 24 ||| flag e.digest 29 ||| flag (e.mode == .confirm) 30 ||| flag e.valid 31
  | 1 => field e.pageCount.toNat 0 25
  | 2 => field e.downstreamBase.toNat 0 24
  | 3 => field e.readSet.toNat 0 16 ||| field e.writeSet.toNat 16 16

/-- Digest record (R112). While the writer is absent its kind reads 0 (R172); that its number then reads 0 too is the
model's choice (log entry 32). -/
def digestWord (d : Digest) (w : Fin 3) : Word :=
  match w with
  | 0 => d.sum
  | 1 => d.wordCount
  | 2 =>
    match d.lastWriter with
    | none => 0#32
    | some (.requester q) => field q.val 0 4 ||| field 1 8 2
    | some (.channel c) => field c.val 0 4 ||| field 2 8 2

/-- Tag record; a deadline that is absent reads 0 (R172). -/
def tagWord (r : TagRecord) (w : Fin 3) : Word :=
  match w with
  | 0 =>
    field (tagStateCode r.state) 0 3 ||| field (tagOwnerCode r.owner) 4 2 ||| field r.ownerRequester.val 8 4 |||
      field r.upstreamTag.toNat 12 8 ||| field r.ownerChannel.val 20 1 ||| flag (r.kind == .cw) 21 |||
      field r.wordCount 24 5
  | 1 => field r.index.val 0 6 ||| field r.generation.toNat 8 8 ||| flag r.deadline.isSome 31
  | 2 => r.deadline.getD 0#32

/-- Channel configuration. -/
def channelConfigurationWord (ch : Channel) (w : Fin 3) : Word :=
  match w with
  | 0 => field ch.owner.val 0 4 ||| flag ch.notifyOnHalt 8
  | 1 => addressLow ch.firstDescriptor
  | 2 => addressHigh ch.firstDescriptor

/-- The tags held, oldest first, one byte each (Table 12-7, channel status +24h). -/
def tagsHeldWord (held : List (Fin 48)) : Word :=
  ((held.take 4).zipIdx.map (fun x => field x.1.val (8 * x.2) 6)).foldl (· ||| ·) 0#32

/-- Channel status. -/
def channelStatusWord (ch : Channel) (w : Fin 10) : Word :=
  match w with
  | 0 =>
    field (channelStateCode ch.state) 0 3 ||| field (haltCauseCode ch.haltCause) 8 3 |||
      optionField (ch.haltIndex.map Fin.val) 16 6 23 ||| flag ch.descriptor.isSome 24 |||
      flag ch.haltAddress.isSome 25 ||| field ch.tagsHeld.length 28 3
  | 1 => addressLow ch.currentAddress
  | 2 => addressHigh ch.currentAddress
  | 3 => field ch.wordsRemaining 0 17
  | 4 => ch.completed
  | 5 => ch.scanSum
  | 6 => ch.scanCount
  | 7 => addressLow (ch.haltAddress.getD 0#36)
  | 8 => addressHigh (ch.haltAddress.getD 0#36)
  | 9 => tagsHeldWord ch.tagsHeld

/-- Current descriptor, 0 when absent (R172). -/
def channelDescriptorWord (ch : Channel) (w : Fin 8) : Word :=
  match ch.descriptor with
  | some d => d.words.getD w.val 0#32
  | none => 0#32

/-- The word of a port's status that the two windows lay out differently: the reply queue, or the issue state. -/
def queueWord (p : Port) (s : State) : Word :=
  match p with
  | .u => field s.replyQueue.length 0 6
  | .d =>
    field s.issueQueue.length 0 6 ||| field (candidateCode s.lastGranted) 8 2 |||
      flag (s.candidatePresent .channel0) 12 ||| flag (s.candidatePresent .channel1) 13

/-- Port status (R162). -/
def portStatusWord (p : Port) (s : State) (w : Fin 15) : Word :=
  let l := s.port p
  match w with
  | 0 =>
    flag (l.state == .up) 0 ||| flag l.withholds 1 ||| field l.advertised 8 7 ||| field l.retryRun 16 3 |||
      flag l.replay.isSome 19
  | 1 =>
    field l.peerCredit 0 7 ||| field l.peerCeiling 8 7 ||| field l.allowance 16 5 ||| field l.owedCredit 24 5
  | 2 =>
    field l.nextSeq.toNat 0 7 ||| field l.expectedSeq.toNat 8 7 ||| field l.replayStore.length 16 5 |||
      field l.inbound.length 24 5
  | 3 => queueWord p s
  | 4 => l.counters.unitsSent
  | 5 => l.counters.unitsResent
  | 6 => l.counters.replays
  | 7 => l.counters.unitsAccepted
  | 8 => l.counters.badUnits
  | 9 => l.counters.gapUnits
  | 10 => l.counters.duplicateUnits
  | 11 => l.counters.earlyUnits
  | 12 => l.counters.badSymbols
  | 13 => l.counters.linkLosses
  | 14 =>
    match p with
    | .u => s.discardedReplies
    | .d => 0#32

/-- Detail code of a fault record, read by kind (12.2). -/
def detailCode : Detail → Nat
  | .entries n => n
  | .reset cause => resetCauseCode cause
  | .halt cause => haltCauseCode cause
  | .image cause _ => imageCauseCode cause

/-- The other index of an OVERLAP (Table 12-8); that it reads 0 beside every other detail is the model's choice (log
entry 32). -/
def detailOther : Detail → Nat
  | .image _ (some other) => other.val
  | .image _ none => 0
  | .entries _ => 0
  | .reset _ => 0
  | .halt _ => 0

/-- Word +0Ch of a fault record. -/
def detailWord : Option Detail → Word
  | some d => field (detailCode d) 0 8 ||| field (detailOther d) 8 6 ||| flag true 31
  | none => 0#32

/-- Fault record (Table 12-8). -/
def faultRecordWord (r : FaultRecord) (w : Fin 6) : Word :=
  match w with
  | 0 =>
    field (faultKindCode r.report.kind) 0 5 ||| field (faultPortCode r.report.port) 6 2 |||
      optionField (r.report.requester.map Fin.val) 8 4 12 ||| optionField (r.report.region.map Fin.val) 16 6 23 |||
      optionField (r.report.tag.map Fin.val) 24 6 30
  | 1 => addressLow (r.report.address.getD 0#36)
  | 2 => addressHigh (r.report.address.getD 0#36) ||| flag r.report.address.isSome 31
  | 3 => detailWord r.report.detail
  | 4 => r.firstTime
  | 5 => field r.repeatCount 0 16

/-- A word of the head record; 0 when the log is empty (R172). -/
def logHeadWord (s : State) (w : Fin 6) : Word :=
  match s.faultLog with
  | r :: _ => faultRecordWord r w
  | [] => 0#32

/-- The value of an aperture word (R127, R128). -/
def State.readAperture (s : State) : ApertureWord → Word
  | .command => 0#32
  | .commandStatus w => commandStatusWord s.command w
  | .gateMode => field (modeCode s.mode) 0 2
  | .replyTimeout => field s.replyTimeout.toNat 0 16
  | .noticeConfiguration => noticeConfigurationWord s
  | .noticeState => field s.pendingCauses.toNat 0 6 ||| flag s.armed 8
  | .logCount => field s.faultLog.length 0 6
  | .lostCount => field s.lostCount 0 16
  | .logHead w => logHeadWord s w
  | .requester q w => requesterWord s.requesters[q] w
  | .generation => field s.generation.toNat 0 8
  | .currentTotal => field s.currentTotal 0 16
  | .previousTotal => field s.previousTotal 0 16
  | .regionStatus r =>
    field (runStateCode (s.regions[r]).runState) 0 2 ||| field (s.regions[r]).inFlight 8 16
  | .digest r w => digestWord s.digests[r] w
  | .staging r w => regionEntryWord s.staging[r] w
  | .active r w => regionEntryWord s.active[r] w
  | .freeTagCount => field s.freeTags.length 0 6
  | .tag t w => tagWord s.tags[t] w
  | .channelConfiguration c w => channelConfigurationWord s.channels[c] w
  | .channelStatus c w => channelStatusWord s.channels[c] w
  | .channelDescriptor c w => channelDescriptorWord s.channels[c] w
  | .portStatus p w => portStatusWord p s w
  | .unused => 0#32

end Sys2Proof.Machine
end

