-- ==== Sys2Proof/Machine/Management.lean ====
section
/-! DEFINITION. Management writes and the management unit's dispatch of an access
(spec/08_the_management_aperture.md 9.1 and 9.2). -/
namespace Sys2Proof.Machine

/-! ### Writes to the windows (R2, R33, R34, R55, R86, R120, R128, R130) -/

/-- A write to the staging window: refused while BUSY, otherwise it replaces the fields the word carries (R2, R130). -/
def State.writeStaging (a : Access) (r : Fin 64) (w : Fin 4) (value : Word) (s : State) : State :=
  if s.command.busy then s.refuseBusy a (0x1000 + 0x10 * r.val + 4 * w.val)
  else State.answer a .ok { s with staging := s.staging.set r ((s.staging[r]).writeWord w value) }

/-- Whether some requester is OPEN and holds the management right (R34). -/
def hasOpenManager (table : Vector RequesterRecord 16) : Bool :=
  table.toList.any (fun r => r.state == .opened && r.right)

/-- Requester record `q` with the right and the limit of a written word (R33). -/
def State.writtenRequester (q : Fin 16) (value : Word) (s : State) : RequesterRecord :=
  { s.requesters[q] with right := writtenRight value, limit := writtenLimit value }

/-- The lockout guard refuses a write that takes a right away and leaves no OPEN manager (R34). -/
def State.lockedOut (q : Fin 16) (value : Word) (s : State) : Bool :=
  (s.requesters[q]).right && !writtenRight value &&
    !hasOpenManager (s.requesters.set q (s.writtenRequester q value))

/-- A write to word 0 of a requester record, subject to the lockout guard (R33, R34). -/
def State.writeRequester (a : Access) (q : Fin 16) (value : Word) (s : State) : State :=
  if s.lockedOut q value then
    State.answer a .refused (s.takeFault { kind := .mgmtLockout, port := some .u, requester := some a.requester,
                                           address := some (apertureAddress (0x0100 + 0x20 * q.val)) })
  else State.answer a .ok (s.setRequester q (s.writtenRequester q value))

/-- A write to the reply timeout word (R55). -/
def State.writeTimeout (a : Access) (value : Word) (s : State) : State :=
  State.answer a .ok { s with replyTimeout := writtenTimeout value }

/-- A write to the notice configuration word (R120, R172). -/
def State.writeNotice (a : Access) (value : Word) (s : State) : State :=
  State.answer a .ok { s with
    noticeRequester := writtenNoticeRequester value, enabledCauses := writtenCauses value }

/-- Word `w` of a channel configuration replaces the fields it carries; the five lowest bits of a descriptor
address are taken as zero (R86, Table 12-7). -/
def Channel.writeWord (ch : Channel) (w : Fin 3) (value : Word) : Channel :=
  match w with
  | 0 => { ch with owner := requesterOf (value.extractLsb' 0 4), notifyOnHalt := value.getLsbD 8 }
  | 1 =>
    { ch with
      firstDescriptor := (ch.firstDescriptor.extractLsb' 32 4 ++ value.extractLsb' 5 27 ++ 0#5 : BitVec 36) }
  | 2 => { ch with firstDescriptor := (value.extractLsb' 0 4 ++ ch.firstDescriptor.extractLsb' 0 32 : BitVec 36) }

/-- Whether a channel's configuration may be written: in IDLE or HALTED (R86). -/
def Channel.configurable (ch : Channel) : Bool := ch.state == .idle || ch.state == .halted

/-- A write to a channel configuration: refused while the channel is in FETCH, RUN or DRAIN (R86). -/
def State.writeChannel (a : Access) (c : Fin 2) (w : Fin 3) (value : Word) (s : State) : State :=
  if (s.channels[c]).configurable then
    State.answer a .ok (s.setChannel c ((s.channels[c]).writeWord w value))
  else s.refuseBusy a (0x3000 + 0x40 * c.val + 4 * w.val)

/-- A write to a read-only or unused word is ignored and a CW answered OK (R128). -/
def State.writeIgnored (a : Access) (s : State) : State := s.answer a .ok

/-! ### The command word (R132) -/

/-- The operand of a command word (Table 12-7). -/
def commandOperand (value : Word) : BitVec 16 := value.extractLsb' 8 16

/-- A write to the command word: the command its code names, or an unknown command (R132, R133). -/
def State.writeCommand (a : Access) (value : Word) (s : State) : State :=
  let code := value.extractLsb' 0 8
  let operand := commandOperand value
  match commandOf code with
  | some .commit => s.takeCommit a operand
  | some .cancel => s.takeCancel a operand
  | some .restart => s.takeRestart a
  | some .revert => s.takeCommand a code operand revertEffect
  | some .quiesce => s.takeCommand a code operand (withRegion operand quiesceEffect)
  | some .resume => s.takeCommand a code operand (withRegion operand resumeEffect)
  | some .digestClear => s.takeCommand a code operand (withRegion operand digestClearEffect)
  | some .fence => s.takeCommand a code operand (withRequester operand (fenceEffect a.requester))
  | some .unfence => s.takeCommand a code operand (withRequester operand unfenceEffect)
  | some .logPop => s.takeCommand a code operand logPopEffect
  | some .logClear => s.takeCommand a code operand logClearEffect
  | some .noticeArm => s.takeCommand a code operand noticeArmEffect
  | some .noticeAck => s.takeCommand a code operand (noticeAckEffect operand)
  | some .channelStart => s.takeCommand a code operand (withChannel operand channelStartEffect)
  | some .channelStop => s.takeCommand a code operand (withChannel operand channelStopEffect)
  | some .channelResume => s.takeCommand a code operand (withChannel operand channelResumeEffect)
  | some .linkRetrain => s.takeCommand a code operand (linkRetrainEffect operand)
  | some .countersClear => s.takeCommand a code operand countersClearEffect
  | none => s.takeCommand a code operand unknownEffect

/-- A management write, by the word it addresses (R127, R128). -/
def State.manageWrite (a : Access) (word : ApertureWord) (value : Word) (s : State) : State :=
  match word with
  | .command => s.writeCommand a value
  | .replyTimeout => s.writeTimeout a value
  | .noticeConfiguration => s.writeNotice a value
  | .requester q w => if w.val = 0 then s.writeRequester a q value else s.writeIgnored a
  | .staging r w => s.writeStaging a r w value
  | .channelConfiguration c w => s.writeChannel a c w value
  | .commandStatus _ => s.writeIgnored a
  | .gateMode => s.writeIgnored a
  | .noticeState => s.writeIgnored a
  | .logCount => s.writeIgnored a
  | .lostCount => s.writeIgnored a
  | .logHead _ => s.writeIgnored a
  | .generation => s.writeIgnored a
  | .currentTotal => s.writeIgnored a
  | .previousTotal => s.writeIgnored a
  | .regionStatus _ => s.writeIgnored a
  | .digest _ _ => s.writeIgnored a
  | .active _ _ => s.writeIgnored a
  | .freeTagCount => s.writeIgnored a
  | .tag _ _ => s.writeIgnored a
  | .channelStatus _ _ => s.writeIgnored a
  | .channelDescriptor _ _ => s.writeIgnored a
  | .portStatus _ _ => s.writeIgnored a
  | .unused => s.writeIgnored a

/-- A management read: status OK with the value the word holds (R127, R129). -/
def State.manageRead (q : Fin 16) (tag : BitVec 8) (word : ApertureWord) (s : State) : State :=
  s.placeReply (.completion q tag .ok [s.readAperture word])

/-- The management unit carries out an access that admission hands over (R127). -/
def State.manage (kind : RequestKind) (q : Fin 16) (tag : BitVec 8) (offset : Nat) (data : List Word)
    (s : State) : State :=
  match kind with
  | .rd => s.manageRead q tag (apertureWord offset)
  | .pw => s.manageWrite { requester := q, tag := tag, confirmed := false } (apertureWord offset) (data.headD 0#32)
  | .cw => s.manageWrite { requester := q, tag := tag, confirmed := true } (apertureWord offset) (data.headD 0#32)

/-! ### The commands of the family -/

/-- STAGING_WRITE (R2). -/
def execStagingWrite (a : Access) (r : Fin 64) (w : Fin 4) (value : Word) (s : State) :
    Host.Outcome State Fault Refusal :=
  .next (s.handed a (State.writeStaging a r w value))

/-- REQUESTER_RECORD_WRITE (R33). -/
def execRequesterRecordWrite (a : Access) (q : Fin 16) (value : Word) (s : State) :
    Host.Outcome State Fault Refusal :=
  .next (s.handed a (State.writeRequester a q value))

/-- REPLY_TIMEOUT_WRITE (R55). -/
def execReplyTimeoutWrite (a : Access) (value : Word) (s : State) : Host.Outcome State Fault Refusal :=
  .next (s.handed a (State.writeTimeout a value))

/-- NOTICE_CONFIGURATION_WRITE (R120). -/
def execNoticeConfigurationWrite (a : Access) (value : Word) (s : State) : Host.Outcome State Fault Refusal :=
  .next (s.handed a (State.writeNotice a value))

/-- CHANNEL_CONFIGURATION_WRITE (R86). -/
def execChannelConfigurationWrite (a : Access) (c : Fin 2) (w : Fin 3) (value : Word) (s : State) :
    Host.Outcome State Fault Refusal :=
  .next (s.handed a (State.writeChannel a c w value))

/-- READ_ONLY_WRITE (R128); a word that is writable is not one of its words. -/
def execReadOnlyWrite (a : Access) (word : BitVec 14) (_value : Word) (s : State) :
    Host.Outcome State Fault Refusal :=
  .next (if apertureWritable (apertureWord (4 * word.toNat)) then s else s.handed a (State.writeIgnored a))

end Sys2Proof.Machine
end

