-- ==== Sys2Proof/Machine/Admission.lean ====
section
/-! DEFINITION. The admission unit (spec/02_admission_and_the_requester_table.md). -/
namespace Sys2Proof.Machine

/-- The outcome of an admission evaluation (Table 3-3). A refusal carries its status and its fault. -/
inductive Verdict where
  | refuse (status : Status) (fault : FaultReport)
  | management (kind : RequestKind) (offset : Nat)
  | retry
  | forward (kind : RequestKind) (p : Passage)
  deriving DecidableEq, Repr

/-- The fault of a refusal at admission (Table 8-1). -/
def admissionFault (kind : FaultKind) (r : Request) (region : Option (Fin 64)) : FaultReport :=
  { kind := kind, port := some (if kind = .linkDown then .d else .u), requester := some r.requester,
    region := region, address := r.address }

/-- A request is posted when its kind is PW; every other kind, unknown ones included, is not (R30). -/
def Request.posted (r : Request) : Bool := requestKind r.kindCode == some .pw

/-- Whether an aperture request is one word with all four first lanes on (R40). -/
def Request.oneWord (r : Request) : Bool :=
  r.wordCount == 1 && r.firstEnables == 0xF#4 && r.lastEnables == 0x0#4

/-- Steps 4 to 9 of the evaluation, for a request below the aperture (R41 to R44). -/
def State.judgeTraffic (s : State) (r : Request) (kind : RequestKind) (address : Address) : Verdict :=
  if s.dPort.state != .up then .refuse .linkDown (admissionFault .linkDown r none)
  else
    match s.regionCheck address.toNat r.wordCount kind r.requester with
    | .miss => .refuse .refused (admissionFault .noRegion r none)
    | .span i => .refuse .refused (admissionFault .span r (some i))
    | .permission i => .refuse .refused (admissionFault .permission r (some i))
    | .paused i => .refuse .paused (admissionFault .paused r (some i))
    | .pass p =>
      if kind != .pw && (s.requesters[r.requester]).limit ≤ (s.requesters[r.requester]).outstanding then .retry
      else .forward kind p

/-- The ordered steps of an admission evaluation (Table 3-3, R38 to R44). -/
def State.verdict (s : State) (r : Request) : Verdict :=
  match wellFormedRequest r with
  | none => .refuse .malformed (admissionFault .malformed r none)
  | some (kind, address) =>
    if (s.requesters[r.requester]).state == .fenced then .refuse .refused (admissionFault .fenced r none)
    else if Config.aperturePage ≤ pageOf address.toNat then
      if !(s.requesters[r.requester]).right then .refuse .refused (admissionFault .mgmtDenied r none)
      else if !r.oneWord then .refuse .malformed (admissionFault .malformed r none)
      else .management kind (address.toNat - Config.apertureBase)
    else s.judgeTraffic r kind address

/-- Whether an outcome places a reply (Table 3-4). -/
def Verdict.needsReply (r : Request) : Verdict → Bool
  | .refuse _ _ => !r.posted
  | .management kind _ => kind != .pw
  | .retry => true
  | .forward _ _ => false

/-- Whether an outcome appends an issue queue entry (Table 3-4). -/
def Verdict.needsIssue : Verdict → Bool
  | .forward _ _ => true
  | .refuse _ _ => false
  | .management _ _ => false
  | .retry => false

/-- Whether an outcome takes a tag (Table 3-4, R44). -/
def Verdict.needsTag : Verdict → Bool
  | .forward _ p => p.kind != .pw
  | .refuse _ _ => false
  | .management _ _ => false
  | .retry => false

/-- The resources an outcome needs and lacks (R45). -/
def State.lacks (s : State) (r : Request) (v : Verdict) : AdmissionWait :=
  { reply := v.needsReply r && !s.replySlot
    issue := v.needsIssue && !(s.issueQueue.length < Config.issueSlots)
    tag := v.needsTag && s.freeTags.isEmpty
    again := false }

/-- Whether anything is lacking. -/
def AdmissionWait.any (w : AdmissionWait) : Bool := w.reply || w.issue || w.tag

/-- The head packet leaves the U port inbound buffer; its slot is credit owed (R37, R158). -/
def State.dequeueU (s : State) : State :=
  { s with
    uPort := { s.uPort with inbound := s.uPort.inbound.drop 1, owedCredit := s.uPort.owedCredit + 1 }
    admissionWait := none }

/-- A requester's record is changed by `f`. -/
def State.updateRequester (q : Fin 16) (f : RequesterRecord → RequesterRecord) (s : State) : State :=
  s.setRequester q (f s.requesters[q])

/-- A refusal: the fault, the refused counter, and the reply to a request that is not posted (R30, R36, R39 to
R42). -/
def State.refuse (r : Request) (status : Status) (fault : FaultReport) (s : State) : State :=
  let s' := (s.takeFault fault).updateRequester r.requester (fun x => { x with refused := x.refused + 1#32 })
  if r.posted then s' else s'.placeReply (.completion r.requester r.tag status [])

/-- A RETRY: the retried counter and the reply (R43). -/
def State.answerRetry (r : Request) (s : State) : State :=
  (s.updateRequester r.requester (fun x => { x with retried := x.retried + 1#32 })).placeReply
    (.completion r.requester r.tag .retry [])

/-- The issue queue entry of a forwarded request (R44, Table 5-1). -/
def forwardEntry (r : Request) (p : Passage) (tag : Option (Fin 48)) : IssueEntry :=
  { kind := p.kind, requester := r.requester, tag := tag, address := p.address, wordCount := r.wordCount,
    firstEnables := r.firstEnables, lastEnables := r.lastEnables, data := r.data, index := p.index,
    generation := p.generation }

/-- The record of the tag a forwarded request takes: REQUESTER for an RD or CW, GATE for a converted PW; fields the
owner does not use are 0 (R44, R52). -/
def forwardTag (r : Request) (kind : RequestKind) (p : Passage) : TagRecord :=
  { state := .queued
    owner := if kind == .pw then .gate else .requester
    ownerRequester := r.requester
    upstreamTag := if kind == .pw then 0#8 else r.tag
    ownerChannel := 0
    kind := if p.kind == .rd then .rd else .cw
    wordCount := r.wordCount
    index := p.index
    generation := p.generation
    deadline := none
    reached := false }

/-- The tag a forwarded request takes, where its downstream kind needs one (R44). -/
def State.takeForwardTag (r : Request) (kind : RequestKind) (p : Passage) (s : State) : Option (Fin 48) × State :=
  if p.kind == .pw then (none, s) else s.takeTag (forwardTag r kind p)

/-- The requester record of a forwarded request: admitted, and outstanding for an RD or CW (R35, R36, R44). -/
def RequesterRecord.forwarded (x : RequesterRecord) (kind : RequestKind) : RequesterRecord :=
  { x with
    admitted := x.admitted + 1#32
    outstanding := if kind == .pw then x.outstanding else x.outstanding + 1 }

/-- A forward: tag, queue entry, counts (R44). -/
def State.forward (r : Request) (kind : RequestKind) (p : Passage) (s : State) : State :=
  let taken := s.takeForwardTag r kind p
  (({ taken.2 with issueQueue := taken.2.issueQueue ++ [forwardEntry r p taken.1] }.rise p.index).updateRequester
    r.requester (fun x => x.forwarded kind))

/-- An outcome is carried out whole (R37). -/
def State.carryOut (r : Request) (v : Verdict) (s : State) : State :=
  match v with
  | .refuse status fault => s.refuse r status fault
  | .management kind offset => s.manage kind r.requester r.tag offset r.data
  | .retry => s.answerRetry r
  | .forward kind p => s.forward r kind p

/-- The evaluation of a request at the head: carried out, or abandoned with what was missing (R37, R45). -/
def State.evaluate (r : Request) (s : State) : State :=
  let v := s.verdict r
  let lacking := s.lacks r v
  if lacking.any then { s with admissionWait := some lacking } else s.dequeueU.carryOut r v

/-- Whether the head packet waits for a resource that has not become available since (R46). -/
def State.admissionBlocked (s : State) : Bool :=
  match s.admissionWait with
  | some w => !w.again
  | none => false

/-- The admission unit evaluates the head packet, first or again (R31, R37, R46). -/
def State.admission (s : State) : State :=
  match s.uPort.inbound with
  | [] => s
  | packet :: _ =>
    if s.admissionBlocked then s
    else if packetType packet = 0 then s.evaluate (readRequest packet)
    else s.dequeueU.takeFault { kind := .unexpectedPacket, port := some .u }

/-- ADMISSION_EVALUATE (R37). -/
def execAdmissionEvaluate (s : State) : Host.Outcome State Fault Refusal := .next s.admission

end Sys2Proof.Machine
end

