-- ==== Sys2Proof/Machine/Pool.lean ====
section
/-! DEFINITION. The completion unit, expiry, reclaim, the closing run and the notice unit
(spec/03_tags_completions_and_timeouts.md 4.5 to 4.9, spec/07_faults_and_notices.md 8.4). -/
namespace Sys2Proof.Machine

/-! ### The completion unit (R57 to R62, R66, R67) -/

/-- The head packet leaves the D port inbound buffer; its slot is credit owed (R58, R158, R159). -/
def State.dequeueD (s : State) : State :=
  { s with
    dPort := { s.dPort with inbound := s.dPort.inbound.drop 1, owedCredit := s.dPort.owedCredit + 1 }
    completionWait := none }

/-- Whether a completion is of the right length for its tag (R57). -/
def rightLength (r : TagRecord) (c : Completion) : Bool :=
  match r.kind with
  | .rd => if c.statusCode = 0 then c.data.length == r.wordCount else c.data.isEmpty
  | .cw => c.data.isEmpty

/-- A completion of status OK and of the right length (R57, R59). -/
def goodCompletion (r : TagRecord) (c : Completion) : Bool := c.statusCode == 0 && rightLength r c

/-- The TARGET_ERROR fault of a requester's or the gate's tag (R59, R60). -/
def targetErrorFault (t : Fin 48) (r : TagRecord) : FaultReport :=
  { kind := .targetError, port := some .d, requester := some r.ownerRequester, region := some r.index, tag := some t }

/-- The TARGET_ERROR fault is recorded unless the completion was good (R59, R60). -/
def State.judge (t : Fin 48) (r : TagRecord) (good : Bool) (s : State) : State :=
  if good then s else s.takeFault (targetErrorFault t r)

/-- The reply to a matched REQUESTER tag (R59). -/
def matchReply (r : TagRecord) (c : Completion) : Reply :=
  if goodCompletion r c then .completion r.ownerRequester r.upstreamTag .ok c.data
  else .completion r.ownerRequester r.upstreamTag .targetError []

/-- A match of a REQUESTER tag: answered upstream and freed; it waits when the reply queue is full (R59, R62). -/
def State.matchRequester (t : Fin 48) (c : Completion) (s : State) : State :=
  let r := s.tags[t]
  if s.replySlot then
    ((s.dequeueD.placeReply (matchReply r c)).freeTag t).judge t r (goodCompletion r c)
  else { s with completionWait := some false }

/-- A match of a GATE tag: absorbed (R60). -/
def State.matchGate (t : Fin 48) (c : Completion) (s : State) : State :=
  let r := s.tags[t]
  (s.dequeueD.freeTag t).judge t r (goodCompletion r c)

/-- A match of a CHANNEL tag: freed and handed to its channel (R61). -/
def State.matchChannel (t : Fin 48) (c : Completion) (s : State) : State :=
  let r := s.tags[t]
  (s.dequeueD.freeTag t).channelAnswer r.ownerChannel t r.index (goodCompletion r c) c.data

/-- The requester that a TIMEOUT or LATE_COMPLETION fault names: the owner requester, or the owner configured for
the channel (R63, R66; log entry 13). -/
def State.faultRequester (r : TagRecord) (s : State) : Fin 16 :=
  match r.owner with
  | .channel => (s.channels[r.ownerChannel]).owner
  | .requester => r.ownerRequester
  | .gate => r.ownerRequester

/-- The LATE_COMPLETION fault (R66). -/
def State.lateFault (t : Fin 48) (s : State) : FaultReport :=
  { kind := .lateCompletion, port := some .d, requester := some (s.faultRequester s.tags[t]),
    region := some (s.tags[t]).index, tag := some t }

/-- A late completion: the EXPIRED tag becomes FREE, with its fault (R66). -/
def State.lateCompletion (t : Fin 48) (s : State) : State := (s.dequeueD.freeTag t).takeFault (s.lateFault t)

/-- An orphan: discarded with its fault (R67). -/
def State.orphan (t : Option (Fin 48)) (s : State) : State :=
  s.dequeueD.takeFault { kind := .orphanCompletion, port := some .d, tag := t }

/-- A match, by the owner of the tag (R59 to R61). -/
def State.matchCompletion (t : Fin 48) (c : Completion) (s : State) : State :=
  match (s.tags[t]).owner with
  | .requester => s.matchRequester t c
  | .gate => s.matchGate t c
  | .channel => s.matchChannel t c

/-- A completion is classified by the state of the tag it names (R58). -/
def State.classify (c : Completion) (s : State) : State :=
  if h : c.tag < 48 then
    let t : Fin 48 := ⟨c.tag, h⟩
    match (s.tags[t]).state with
    | .waiting => s.matchCompletion t c
    | .expired => s.lateCompletion t
    | .free => s.orphan (some t)
    | .queued => s.orphan (some t)
    | .closing => s.orphan (some t)
  else s.orphan none

/-- The completion unit takes the head packet: first, or again once a reply slot has freed (R58, R62). -/
def State.takeCompletion (s : State) : State :=
  match s.dPort.inbound with
  | [] => s
  | packet :: _ =>
    if s.completionWait == some false then s
    else if packetType packet = 1 then s.classify (readCompletion packet)
    else s.dequeueD.takeFault { kind := .unexpectedPacket, port := some .d }

/-! ### Expiry, reclaim and the closing run (R63 to R66, R69) -/

/-- The TIMEOUT fault of a tag (R63, R64). -/
def State.timeoutFault (t : Fin 48) (s : State) : FaultReport :=
  { kind := .timeout, port := some .d, requester := some (s.faultRequester s.tags[t]),
    region := some (s.tags[t]).index, tag := some t }

/-- Whether the reply deadline of a WAITING tag is reached (R63, R64). -/
def State.replyDue (t : Fin 48) (s : State) : Bool := (s.tags[t]).state == .waiting && s.tagReached t

/-- A GATE or CHANNEL tag expires at its reply deadline (R63). -/
def State.expireOwn (t : Fin 48) (s : State) : State :=
  let r := s.tags[t]
  if s.replyDue t then
    match r.owner with
    | .gate => (s.expireTag t).takeFault (s.timeoutFault t)
    | .channel => ((s.expireTag t).takeFault (s.timeoutFault t)).channelExpiry r.ownerChannel t r.index
    | .requester => s
  else s

/-- A REQUESTER tag expires at its reply deadline, when a reply slot is free (R64). -/
def State.expireRequester (t : Fin 48) (s : State) : State :=
  let r := s.tags[t]
  if s.replyDue t && r.owner == .requester && s.replySlot then
    ((s.placeReply (.completion r.ownerRequester r.upstreamTag .timeout [])).expireTag t).takeFault
      (s.timeoutFault t)
  else s

/-- An EXPIRED tag is reclaimed at its reclaim deadline (R66). -/
def State.reclaim (t : Fin 48) (s : State) : State :=
  if (s.tags[t]).state == .expired && s.tagReached t then s.freeTag t else s

/-- The lowest CLOSING tag (R69). -/
def State.lowestClosing (s : State) : Option (Fin 48) :=
  (List.finRange 48).find? (fun t => (s.tags[t]).state == .closing)

/-- The lowest CLOSING tag is answered LINK_DOWN when a reply slot is available (R69). -/
def State.answerClosing (s : State) : State :=
  match s.lowestClosing with
  | some t =>
    let r := s.tags[t]
    if s.replySlot then (s.placeReply (.completion r.ownerRequester r.upstreamTag .linkDown [])).freeTag t else s
  | none => s

/-! ### The notice unit (R121, R122) -/

/-- A notice is placed when the notice condition holds and a reply slot is free, and the unit disarms (R121). The
condition is read as it stands at the event, so also between the check word and the end of the image commit: the
model's choice (log entry 31). -/
def State.placeNotice (s : State) : State :=
  match s.noticeRequester with
  | some q =>
    if s.noticeCondition && s.replyQueue.length < Config.replySlots then
      { s.placeReply (.notice q (s.pendingCauses &&& s.enabledCauses) s.timeBase) with armed := false }
    else s
  | none => s

/-! ### The commands of the family -/

/-- COMPLETION_TAKE (R58). -/
def execCompletionTake (s : State) : Host.Outcome State Fault Refusal := .next s.takeCompletion

/-- TAG_EXPIRY (R63). -/
def execTagExpiry (t : Fin 48) (s : State) : Host.Outcome State Fault Refusal := .next (s.expireOwn t)

/-- REQUESTER_EXPIRY (R64). -/
def execRequesterExpiry (t : Fin 48) (s : State) : Host.Outcome State Fault Refusal := .next (s.expireRequester t)

/-- RECLAIM (R66). -/
def execReclaim (t : Fin 48) (s : State) : Host.Outcome State Fault Refusal := .next (s.reclaim t)

/-- CLOSING_ANSWER (R69). -/
def execClosingAnswer (s : State) : Host.Outcome State Fault Refusal := .next s.answerClosing

/-- NOTICE_PLACE (R121). -/
def execNoticePlace (s : State) : Host.Outcome State Fault Refusal := .next s.placeNotice

end Sys2Proof.Machine
end

