-- ==== Sys2Proof/Machine/Dispatch.lean ====
section
/-! DEFINITION. One arm per command, each one call of its meaning. -/
namespace Sys2Proof.Machine

/-- The effect of a command on everything but the queue. -/
def exec (i : Instr) (s : State) : Host.Outcome State Fault Refusal :=
  match i with
  | .resetAssert => Sys2Proof.Machine.execResetAssert s
  | .resetRelease => Sys2Proof.Machine.execResetRelease s
  | .imageWord b0 b1 b2 b3 => Sys2Proof.Machine.execImageWord b0 b1 b2 b3 s
  | .validationEnd => Sys2Proof.Machine.execValidationEnd s
  | .linkUnitReceive p bytes => Sys2Proof.Machine.execLinkUnitReceive p bytes s
  | .initReceive p value => Sys2Proof.Machine.execInitReceive p value s
  | .ackReceive p value => Sys2Proof.Machine.execAckReceive p value s
  | .retryReceive p value => Sys2Proof.Machine.execRetryReceive p value s
  | .creditReceive p value => Sys2Proof.Machine.execCreditReceive p value s
  | .resetReceive p value => Sys2Proof.Machine.execResetReceive p value s
  | .badSymbol p kind value check => Sys2Proof.Machine.execBadSymbol p kind value check s
  | .initResend p => Sys2Proof.Machine.execInitResend p s
  | .acknowledgementTimer p => Sys2Proof.Machine.execAcknowledgementTimer p s
  | .resend p => Sys2Proof.Machine.execResend p s
  | .ackSend p => Sys2Proof.Machine.execAckSend p s
  | .creditSend p => Sys2Proof.Machine.execCreditSend p s
  | .replySend => Sys2Proof.Machine.execReplySend s
  | .grant => Sys2Proof.Machine.execGrant s
  | .admissionEvaluate => Sys2Proof.Machine.execAdmissionEvaluate s
  | .completionTake => Sys2Proof.Machine.execCompletionTake s
  | .tagExpiry t => Sys2Proof.Machine.execTagExpiry t s
  | .requesterExpiry t => Sys2Proof.Machine.execRequesterExpiry t s
  | .reclaim t => Sys2Proof.Machine.execReclaim t s
  | .closingAnswer => Sys2Proof.Machine.execClosingAnswer s
  | .channelTagTake c => Sys2Proof.Machine.execChannelTagTake c s
  | .noticePlace => Sys2Proof.Machine.execNoticePlace s
  | .commit a operand => Sys2Proof.Machine.execCommit a operand s
  | .cancel a operand => Sys2Proof.Machine.execCancel a operand s
  | .revert a operand => Sys2Proof.Machine.execRevert a operand s
  | .quiesce a operand => Sys2Proof.Machine.execQuiesce a operand s
  | .resume a operand => Sys2Proof.Machine.execResume a operand s
  | .digestClear a operand => Sys2Proof.Machine.execDigestClear a operand s
  | .fence a operand => Sys2Proof.Machine.execFence a operand s
  | .unfence a operand => Sys2Proof.Machine.execUnfence a operand s
  | .logPop a operand => Sys2Proof.Machine.execLogPop a operand s
  | .logClear a operand => Sys2Proof.Machine.execLogClear a operand s
  | .noticeArm a operand => Sys2Proof.Machine.execNoticeArm a operand s
  | .noticeAck a operand => Sys2Proof.Machine.execNoticeAck a operand s
  | .channelStart a operand => Sys2Proof.Machine.execChannelStart a operand s
  | .channelStop a operand => Sys2Proof.Machine.execChannelStop a operand s
  | .channelResume a operand => Sys2Proof.Machine.execChannelResume a operand s
  | .linkRetrain a operand => Sys2Proof.Machine.execLinkRetrain a operand s
  | .countersClear a operand => Sys2Proof.Machine.execCountersClear a operand s
  | .restart a operand => Sys2Proof.Machine.execRestart a operand s
  | .unknownCommand a code operand => Sys2Proof.Machine.execUnknownCommand a code operand s
  | .stagingWrite a r w value => Sys2Proof.Machine.execStagingWrite a r w value s
  | .requesterRecordWrite a q value => Sys2Proof.Machine.execRequesterRecordWrite a q value s
  | .replyTimeoutWrite a value => Sys2Proof.Machine.execReplyTimeoutWrite a value s
  | .noticeConfigurationWrite a value => Sys2Proof.Machine.execNoticeConfigurationWrite a value s
  | .channelConfigurationWrite a c w value => Sys2Proof.Machine.execChannelConfigurationWrite a c w value s
  | .readOnlyWrite a word value => Sys2Proof.Machine.execReadOnlyWrite a word value s

end Sys2Proof.Machine
end

