-- ==== Sys2Proof/Machine/Time.lean ====
section
/-! DEFINITION. The passing of one microsecond (spec/00_scope.md 1.5, R64, R163). -/
namespace Sys2Proof.Machine

/-- A tag record when the time base shows `now`: a deadline once reached stays reached (R64). -/
def TagRecord.tick (now : Word) (r : TagRecord) : TagRecord :=
  match r.deadline with
  | some d => { r with reached := r.reached || deadlineReached now d }
  | none => r

/-- One microsecond passes: the time base counts, unless the reset pin holds it at 0 (R163; log entry 3). -/
def State.tick (s : State) : State :=
  if s.resetHeld then s
  else
    { s with
      timeBase := s.timeBase + 1#32
      tags := ⟨⟨s.tags.toList.map (TagRecord.tick (s.timeBase + 1#32))⟩, by simp⟩ }

end Sys2Proof.Machine
end

