-- ==== Sys2Proof/Safety.lean ====
section
/-! DEFINITION. The laws that the spec says the gate holds, as predicates on its state. Each names the rule that
states it; a clause that the rule leaves to the reader (a count that is never negative, a field that a state excludes)
names the table it is read from. -/
namespace Sys2Proof.Machine

/-! ### The fault log (R114, Table 8-2) -/

/-- The fault log holds at most 32 records; the lost count and the repeat counts are at most 65535. -/
def State.logLaw (s : State) : Prop :=
  s.faultLog.length ≤ 32 ∧ s.lostCount ≤ 65535 ∧ ∀ r ∈ s.faultLog, r.repeatCount ≤ 65535

/-! ### The two queues (R73, R160, R161) -/

/-- The reply queue holds at most 32 packets and is empty while the U port is not UP; the issue queue holds at most
32 entries. -/
def State.queueLaw (s : State) : Prop :=
  s.replyQueue.length ≤ 32 ∧ (s.uPort.state ≠ .up → s.replyQueue = []) ∧ s.issueQueue.length ≤ 32

/-! ### The ports (R146, R152, R153, R156, R157, R159) -/

/-- A port that is not UP holds what entering DOWN left: every collection empty, every count 0 (R146). -/
def LinkPort.cleared (l : LinkPort) : Prop :=
  l.nextSeq = 0#7 ∧ l.expectedSeq = 0#7 ∧ l.replayStore = [] ∧ l.replay = none ∧ l.ackTimer = none ∧
    l.retryRun = 0 ∧ l.retrySent = false ∧ l.peerCredit = 0 ∧ l.peerCeiling = 0 ∧ l.allowance = 0 ∧
    l.owedCredit = 0 ∧ l.ackOwed = false ∧ l.inbound = []

/-- The replay store holds at most 16 units, each wrapped as R142 says, numbered consecutively up to the number
before the next one (R153). -/
def LinkPort.storeLaw (l : LinkPort) : Prop :=
  l.replayStore.length ≤ 16 ∧
    (∀ u ∈ l.replayStore, u = wrapUnit u.seq u.packet) ∧
    l.replayStore.map LinkUnit.seq =
      (List.range l.replayStore.length).map
        (fun i => l.nextSeq - BitVec.ofNat 7 (l.replayStore.length - i))

/-- The retry run is at most 4, a replay in progress has a packet left to resend, and the acknowledgement timer
runs exactly while packets are stored and no replay is in progress (R153, R154, R156). -/
def LinkPort.replayLaw (l : LinkPort) : Prop :=
  l.retryRun ≤ 4 ∧ (∀ i ∈ l.replay, i < l.replayStore.length) ∧
    (l.ackTimer.isSome = true ↔ l.replayStore ≠ [] ∧ l.replay = none)

/-- Packets in the inbound buffer, credit owed and allowance together are at most 16, so the buffer never
overflows (R152, R159); the peer credit stays at or below its ceiling, which is at most 64 (R157). -/
def LinkPort.creditLaw (l : LinkPort) : Prop :=
  l.inbound.length + l.owedCredit + l.allowance ≤ 16 ∧ l.peerCredit ≤ l.peerCeiling ∧ l.peerCeiling ≤ 64 ∧
    (l.advertised = 0 ∨ l.advertised = 16)

/-- A port that withholds advertises 0 and has granted nothing (R144, R152, R158). -/
def LinkPort.withholdLaw (l : LinkPort) : Prop :=
  l.withholds = true → l.advertised = 0 ∧ l.allowance = 0 ∧ l.owedCredit = 0 ∧ l.inbound = []

/-- The laws of one port. -/
def LinkPort.law (l : LinkPort) : Prop :=
  (l.state ≠ .up → l.cleared) ∧ l.storeLaw ∧ l.replayLaw ∧ l.creditLaw ∧ l.withholdLaw ∧
    (l.initDue.isSome = true ↔ l.state = .init)

/-- Both ports keep their laws; a port is DOWN only while the reset pin is held (Table 10-2, log entry 6); the D port
never withholds (R144); a U port out of DOWN withholds while the mode is LOADING, and a U port in UP withholds in no
other mode (R139, R144, R158). -/
def State.portLaw (s : State) : Prop :=
  s.uPort.law ∧ s.dPort.law ∧ (s.uPort.state = .down ↔ s.resetHeld = true) ∧
    (s.dPort.state = .down ↔ s.resetHeld = true) ∧ s.dPort.withholds = false ∧
    (s.mode = .loading → s.uPort.state ≠ .down → s.uPort.withholds = true) ∧
    (s.mode ≠ .loading → s.uPort.state = .up → s.uPort.withholds = false)

/-! ### The command unit (Table 9-2, R131, R134) -/

/-- The phase is present and the last result absent exactly while BUSY; the invalid fields are present exactly while
the last result is INVALID, the other index exactly for OVERLAP. -/
def State.commandLaw (s : State) : Prop :=
  (s.command.phase.isSome = true ↔ s.command.busy = true) ∧ (s.command.lastResult = none ↔ s.command.busy = true) ∧
    (s.command.invalidEntry.isSome = true ↔ s.command.lastResult = some .invalid) ∧
    (s.command.invalidCause.isSome = true ↔ s.command.lastResult = some .invalid) ∧
    (s.command.invalidOther.isSome = true ↔ s.command.invalidCause = some .overlap)

/-! ### The banks (R15, R18) -/

/-- Every valid entry has at least one page, ends below the aperture and inside the downstream space, and shares no
upstream page with another valid entry. -/
def bankLawful (b : Bank) : Prop :=
  ∀ i : Fin 64, (b[i]).valid = true →
    1 ≤ (b[i]).pageCount.toNat ∧ (b[i]).upstreamEnd ≤ 0xFFFFF0 ∧ (b[i]).downstreamEnd ≤ 0x1000000 ∧
      ∀ j : Fin 64, j ≠ i → (b[j]).valid = true →
        (b[i]).upstreamEnd ≤ (b[j]).upstreamBase.toNat ∨ (b[j]).upstreamEnd ≤ (b[i]).upstreamBase.toNat

/-- The law held by the commit (R18): the active bank is lawful, and so is the staging bank of a commit in DRAIN. -/
def State.bankLaw (s : State) : Prop :=
  bankLawful s.active ∧ (s.command.phase = some .drain → bankLawful s.staging)

/-! ### Run states (R23, Table 2-4) -/

/-- A QUIESCED index has an in-flight count of zero; a QUIESCING index has a greater one. -/
def State.quiesceLaw (s : State) : Prop :=
  ∀ r : Fin 64, ((s.regions[r]).runState = .quiesced → (s.regions[r]).inFlight = 0) ∧
    ((s.regions[r]).runState = .quiescing → 0 < (s.regions[r]).inFlight)

/-! ### The tag pool (R51, Table 4-1) -/

/-- Each tag is on the free tag list exactly once when it is FREE and not at all otherwise; its deadline is present
exactly in WAITING and EXPIRED. -/
def State.tagLaw (s : State) : Prop :=
  ∀ t : Fin 48, s.freeTags.count t = (if (s.tags[t]).state = .free then 1 else 0) ∧
    ((s.tags[t]).deadline.isSome = true ↔ (s.tags[t]).state = .waiting ∨ (s.tags[t]).state = .expired) ∧
    ((s.tags[t]).reached = true → (s.tags[t]).deadline.isSome = true)

/-! ### The requester table (R33, R35) -/

/-- How many tags in QUEUED, WAITING or CLOSING requester `q` owns (R35). -/
def State.tagsOwed (s : State) (q : Fin 16) : Nat :=
  (List.finRange 48).countP (fun t => (s.tags[t]).owes && (s.tags[t]).ownerRequester == q)

/-- The outstanding count of each requester is the number of tags it is owed, and is at most 16; its limit is from
1 to 16. -/
def State.outstandingLaw (s : State) : Prop :=
  ∀ q : Fin 16, (s.requesters[q]).outstanding = s.tagsOwed q ∧ (s.requesters[q]).outstanding ≤ 16 ∧
    1 ≤ (s.requesters[q]).limit ∧ (s.requesters[q]).limit ≤ 16

/-! ### The move channels (R94, Tables 6-2 and 6-4) -/

/-- A channel holds at most four tags; in IDLE or HALTED it holds nothing at all; in DRAIN it holds a tag; a formed
request without a tag is held only in FETCH and RUN, and one that waits for its tag leaves room for it. -/
def Channel.heldLaw (ch : Channel) : Prop :=
  ch.tagsHeld.length ≤ 4 ∧
    (ch.state = .idle ∨ ch.state = .halted →
      ch.tagsHeld = [] ∧ ch.readList = [] ∧ ch.writeList = [] ∧ ch.formed = none) ∧
    (ch.state = .drain → ch.tagsHeld ≠ []) ∧
    (∀ f ∈ ch.formed,
      (f.entry.tag = none → ch.running = true) ∧ (f.lacksTag = true → ch.tagsHeld.length < 4))

/-- A channel in FETCH holds no descriptor and one in RUN holds one; a descriptor held is good; the descriptor
addresses are 32-byte aligned; words remaining are at most the descriptor's in RUN. -/
def Channel.descriptorLaw (ch : Channel) : Prop :=
  (ch.state = .fetch → ch.descriptor = none) ∧ (ch.state = .run → ch.descriptor.isSome = true) ∧
    (∀ d ∈ ch.descriptor, d.bad = false ∧ (ch.state = .run → ch.wordsRemaining ≤ d.wordCount)) ∧
    ch.firstDescriptor.toNat % 32 = 0 ∧ ch.currentAddress.toNat % 32 = 0

/-- Both channels keep their laws. -/
def State.channelLaw (s : State) : Prop :=
  ∀ c : Fin 2, (s.channels[c]).heldLaw ∧ (s.channels[c]).descriptorLaw

/-! ### Who holds which tag (R52, R54, R87, Table 5-1) -/

/-- The tag of the formed request of channel `c`, where it has one. -/
def State.formedTag (s : State) (c : Fin 2) : Option (Fin 48) :=
  (s.channels[c]).formed.bind (fun f => f.entry.tag)

/-- The tags that the issue queue's entries hold, head first. -/
def State.queuedTags (s : State) : List (Fin 48) := s.issueQueue.filterMap IssueEntry.tag

/-- The channel's tags held are its tags in QUEUED and WAITING, each once, the one of its formed request the one in
QUEUED; the tags of the issue queue are the QUEUED tags of the other owners, each held by one entry with the
requester, the index and the generation of the record. -/
def State.tagUseLaw (s : State) : Prop :=
  (∀ c : Fin 2, (s.channels[c]).tagsHeld.Nodup ∧ ∀ t : Fin 48,
    (t ∈ (s.channels[c]).tagsHeld ↔
      (s.tags[t]).inFlight = true ∧ (s.tags[t]).owner = .channel ∧ (s.tags[t]).ownerChannel = c) ∧
    (s.formedTag c = some t ↔
      (s.tags[t]).state = .queued ∧ (s.tags[t]).owner = .channel ∧ (s.tags[t]).ownerChannel = c)) ∧
  s.queuedTags.Nodup ∧
  (∀ t : Fin 48, t ∈ s.queuedTags ↔ (s.tags[t]).state = .queued ∧ (s.tags[t]).owner ≠ .channel) ∧
  (∀ e ∈ s.issueQueue, ∀ t : Fin 48, e.tag = some t →
    (s.tags[t]).ownerRequester = e.requester ∧ (s.tags[t]).index = e.index ∧
      (s.tags[t]).generation = e.generation)

/-! ### In-flight items (R11, R12, R13, R18) -/

/-- The region index and the generation of an item. -/
abbrev Item := Fin 64 × BitVec 8

/-- The items that count through a tag in QUEUED or WAITING (R11). -/
def State.taggedItems (s : State) : List Item :=
  ((List.finRange 48).filter (fun t => (s.tags[t]).inFlight)).map
    (fun t => ((s.tags[t]).index, (s.tags[t]).generation))

/-- The posted entries of the issue queue (R11). -/
def State.postedItems (s : State) : List Item :=
  (s.issueQueue.filter (fun e => e.tag.isNone)).map (fun e => (e.index, e.generation))

/-- The formed requests of the channels that hold no tag (R11). -/
def State.formedItems (s : State) : List Item :=
  (List.finRange 2).filterMap (fun c =>
    ((s.channels[c]).formed.filter (fun f => f.entry.tag.isNone)).map (fun f => (f.entry.index, f.entry.generation)))

/-- Every in-flight item (R11). -/
def State.items (s : State) : List Item := s.taggedItems ++ s.postedItems ++ s.formedItems

/-- The in-flight count of each index is the number of its items; every item carries the current or the previous
generation; the two totals count the items of the two generations (R11, R13, and the law held by the drain, R18). -/
def State.accountLaw (s : State) : Prop :=
  (∀ r : Fin 64, (s.regions[r]).inFlight = s.items.countP (fun i => i.1 == r)) ∧
    (∀ i ∈ s.items, i.2 = s.generation ∨ i.2 = s.generation - 1#8) ∧
    s.currentTotal = s.items.countP (fun i => i.2 == s.generation) ∧
    s.previousTotal = s.items.countP (fun i => i.2 == s.generation - 1#8)

/-! ### Loading (R32, R163, R164, R170) -/

/-- While the mode is LOADING nothing is admitted or formed: every tag is FREE, every channel IDLE, the issue queue
and the U port inbound buffer empty. The loader holds words only in LOADING and before any commit; while the pin is
held the mode is LOADING with no read and no commit begun. A gate that is not NORMAL has no valid active entry. -/
def State.loadingLaw (s : State) : Prop :=
  (s.loader.isSome = true → s.mode = .loading ∧ s.command.busy = false) ∧
    (s.resetHeld = true → s.mode = .loading ∧ s.loader = none ∧ s.command.busy = false) ∧
    (s.mode = .loading → (∀ t : Fin 48, (s.tags[t]).state = .free) ∧ (∀ c : Fin 2, (s.channels[c]).state = .idle) ∧
      s.issueQueue = [] ∧ s.uPort.inbound = []) ∧
    (s.mode ≠ .normal → ∀ i : Fin 64, (s.active[i]).valid = false)

/-! ### Managers (R34) -/

/-- Some requester is OPEN and holds the management right (R34). -/
def State.managed (s : State) : Prop :=
  ∃ q : Fin 16, (s.requesters[q]).state = .opened ∧ (s.requesters[q]).right = true

/-- Once loading has ended, or the image has been loaded and its commit runs, there is always an OPEN manager (R34,
R165); until then every requester is OPEN (R32, R166). -/
def State.managerLaw (s : State) : Prop :=
  (s.mode ≠ .loading ∨ s.command.busy = true → s.managed) ∧
    (s.mode = .loading → ∀ q : Fin 16, (s.requesters[q]).state = .opened)

/-! ### Words of the statements: rights, replies and the command status -/

/-- What admission has established when it hands a management write over (9.1, R40, R45). -/
def State.mayManage (s : State) (a : Access) : Prop :=
  s.uPort.state = .up ∧ s.mode ≠ .loading ∧ (s.requesters[a.requester]).state = .opened ∧
    (s.requesters[a.requester]).right = true ∧ (a.confirmed = true → s.replyQueue.length < 32)

/-- The reply to a CW; a PW has none (R127). -/
def replies (a : Access) (status : Status) : List Reply :=
  if a.confirmed then [.completion a.requester a.tag status []] else []

/-- The state with the reply to a management write placed. -/
def State.replied (a : Access) (status : Status) (s : State) : State :=
  { s with replyQueue := s.replyQueue ++ replies a status }

/-- The command status that a command ending in its own event leaves (R131, R132). -/
def statusAfter (a : Access) (code : Byte) (operand : BitVec 16) (result : Result) : CommandStatus :=
  { busy := false, phase := none, lastCommand := some code, lastOperand := operand, lastIssuer := some a.requester,
    lastResult := some result, invalidEntry := none, invalidCause := none, invalidOther := none }

/-- The state with a command's status recorded and its reply placed (R132). -/
def State.taken (a : Access) (code : Byte) (operand : BitVec 16) (result : Result) (s : State) : State :=
  { s with command := statusAfter a code operand result, replyQueue := s.replyQueue ++ replies a .ok }

/-- A refused management write: BUSY to a CW, MGMT_BUSY for a PW, and nothing else (R130). -/
def State.turnedAway (a : Access) (offset : Nat) (s : State) : State :=
  if a.confirmed then { s with replyQueue := s.replyQueue ++ [.completion a.requester a.tag .busy []] }
  else
    s.takeFault { kind := .mgmtBusy, port := some .u, requester := some a.requester,
                  address := some (BitVec.ofNat 36 (0xFFFFF0000 + offset)) }

/-! ### Words of the statements: banks and images -/

/-- Entry `i` passes the tests of R15 against the entries below it. -/
def entryPasses (b : Bank) (i : Fin 64) : Prop :=
  1 ≤ (b[i]).pageCount.toNat ∧ (b[i]).upstreamEnd ≤ 0x1000000 ∧ (b[i]).downstreamEnd ≤ 0x1000000 ∧
    (b[i]).upstreamEnd ≤ 0xFFFFF0 ∧
    ∀ j : Fin 64, j < i → (b[j]).valid = true →
      (b[i]).upstreamEnd ≤ (b[j]).upstreamBase.toNat ∨ (b[j]).upstreamEnd ≤ (b[i]).upstreamBase.toNat

/-- The region entry of its four words (Table 12-7, R172). -/
def entryOfWords (w0 w1 w2 w3 : Word) : RegionEntry :=
  { valid := w0.getLsbD 31
    upstreamBase := w0.extractLsb' 0 24
    pageCount := if 16777216 < (w1.extractLsb' 0 25).toNat then 16777216#25 else w1.extractLsb' 0 25
    downstreamBase := w2.extractLsb' 0 24
    readSet := w3.extractLsb' 0 16
    writeSet := w3.extractLsb' 16 16
    mode := if w0.getLsbD 30 then .confirm else .posted
    digest := w0.getLsbD 29 }

/-- The outstanding limit of a requester word (R33). -/
def limitOfWord (w : Word) : Nat := max 1 (min 16 (w.toNat / 256 % 32))

/-- The reply timeout of a written word (R55). -/
def timeoutOfWord (w : Word) : BitVec 16 := if w.toNat % 65536 < 16 then 16#16 else w.extractLsb' 0 16

/-- The notice requester of a written word (R172). -/
def noticeRequesterOfWord (w : Word) : Option (Fin 16) :=
  if w.getLsbD 7 then some (Fin.ofNat 16 (w.toNat % 16)) else none

/-- A symbol on a line, with its check byte (R143). -/
def symbolOn (p : Port) (kind value : Byte) : Sent := .symbol p kind value (crc8 kind value)

/-- A U port that is UP and withholds sends CREDIT(16) (R158, R169); the value byte's ignored bits are sent as 0 (log
entry 33). -/
def State.creditGranted (s : State) : State :=
  if s.uPort.state = .up ∧ s.uPort.withholds = true then
    { s with
      wire := s.wire ++ [symbolOn .u 4#8 15#8]
      uPort := { s.uPort with allowance := s.uPort.allowance + 16, withholds := false } }
  else s

/-- The end of a load that fails (R168, R169). -/
def State.loadFailed (cause : ImageCause) (index other : Option (Fin 64)) (s : State) : State :=
  State.creditGranted { s.takeFault { kind := .image, region := index, detail := some (.image cause other) } with
    loader := none
    serialSelect := false
    requesters := (Vector.replicate 16 RequesterRecord.reset).set 0 { RequesterRecord.reset with right := true }
    replyTimeout := 2000#16
    noticeRequester := none
    enabledCauses := 0#6
    mode := .safe }

/-! ### Words of the statements: ports -/

/-- A port that has just entered INIT from any state: what DOWN clears is cleared, the counters stay (R144, R146). -/
def LinkPort.fresh (l : LinkPort) (advertised : Nat) (now : Word) : LinkPort :=
  { state := .init, advertised := advertised, withholds := advertised == 0, peerCredit := 0, peerCeiling := 0,
    allowance := 0, owedCredit := 0, nextSeq := 0#7, expectedSeq := 0#7, replayStore := [], replay := none,
    ackTimer := none, retryRun := 0, retrySent := false, ackOwed := false, initDue := some (now + 10#32),
    inbound := [], counters := l.counters }

/-- A send side that can take a new packet (R79, R153). -/
def LinkPort.ready (l : LinkPort) : Prop :=
  l.state = .up ∧ 1 ≤ l.peerCredit ∧ l.replayStore.length < 16 ∧ l.replay = none

/-- A port that has sent `packet` as a new packet (R153). -/
def LinkPort.afterSending (l : LinkPort) (packet : List Word) (now : Word) : LinkPort :=
  { l with
    nextSeq := l.nextSeq + 1#7
    peerCredit := l.peerCredit - 1
    replayStore := l.replayStore ++ [wrapUnit l.nextSeq packet]
    ackTimer := if l.replayStore = [] then some (now + 64#32) else l.ackTimer
    counters := { l.counters with unitsSent := l.counters.unitsSent + 1#32 } }

/-- A port that begins a replay (R156). -/
def LinkPort.replaying (l : LinkPort) : LinkPort :=
  { l with
    retryRun := l.retryRun + 1
    replay := some 0
    ackTimer := none
    counters := { l.counters with replays := l.counters.replays + 1#32 } }

/-- A port whose oldest stored units have been acknowledged, `k` of them, leaving `rest` (R154). -/
def LinkPort.afterAck (l : LinkPort) (k : Nat) (rest : List LinkUnit) (now : Word) : LinkPort :=
  { l with
    replayStore := rest
    retryRun := 0
    replay := if rest = [] then none else l.replay.map (fun resent => resent - k)
    ackTimer := if rest = [] then none else if l.replay = none then some (now + 64#32) else l.ackTimer }

/-! ### Words of the statements: the loss of the D port (R116) -/

/-- The faults of the GATE-owned tags freed, in increasing tag number (R68). -/
def State.gateTagFaults (s : State) : List FaultReport :=
  ((List.finRange 48).filter (fun t => (s.tags[t]).inFlight && (s.tags[t]).owner == .gate)).map (fun t =>
    { kind := .linkDown, port := some .d, requester := some (s.tags[t]).ownerRequester,
      region := some (s.tags[t]).index, tag := some t })

/-- The faults of the posted entries dropped, from the head of the issue queue to its tail (R77). -/
def State.postedFaults (s : State) : List FaultReport :=
  (s.issueQueue.filter (fun e => e.tag.isNone)).map (fun e =>
    { kind := .linkDown, port := some .d, requester := some e.requester, region := some e.index })

/-- The fault of channel `c`, where it halts in the loss with a cause other than STOPPED (R101, R104). -/
def State.channelFaults (s : State) (c : Fin 2) : List FaultReport :=
  let ch := s.channels[c]
  if ch.running then
    [{ kind := .channelHalt, port := some .d, requester := some ch.owner, detail := some (.halt .linkDown) }]
  else if ch.state = .drain ∧ ch.haltCause ≠ .stopped then
    [{ kind := .channelHalt
       port := if ch.haltCause = .targetError ∨ ch.haltCause = .timeout ∨ ch.haltCause = .linkDown then some .d else none
       requester := some ch.owner
       region := ch.haltIndex
       address := ch.haltAddress
       detail := some (.halt ch.haltCause) }]
  else []

/-- The faults of the blocks at the loss of the D port, in the order of R116. -/
def State.lossFaults (s : State) : List FaultReport :=
  s.gateTagFaults ++ s.postedFaults ++ s.channelFaults 0 ++ s.channelFaults 1

/-- Several faults taken one after another (R116). -/
def State.takeFaults (l : List FaultReport) (s : State) : State := l.foldl (fun s f => s.takeFault f) s

/-! ### Words of the statements: admission and completions -/

/-- The state with the head of the U port inbound buffer taken, `rest` staying behind (R37, R158). -/
def State.headOffU (rest : List (List Word)) (s : State) : State :=
  { s with
    uPort := { s.uPort with inbound := rest, owedCredit := s.uPort.owedCredit + 1 }
    admissionWait := none }

/-- The state with the head of the D port inbound buffer taken, `rest` staying behind (R58, R158). -/
def State.headOffD (rest : List (List Word)) (s : State) : State :=
  { s with
    dPort := { s.dPort with inbound := rest, owedCredit := s.dPort.owedCredit + 1 }
    completionWait := none }

/-- `packet`, a request, heads the U port inbound buffer before `rest` and may be weighed now (R37, R46). -/
def State.admits (s : State) (packet : List Word) (rest : List (List Word)) : Prop :=
  s.uPort.state = .up ∧ s.uPort.inbound = packet :: rest ∧ packetType packet = 0 ∧
    ∀ w ∈ s.admissionWait, w.again = true

/-- The state with a reply at the tail of the reply queue, or discarded and counted while the U port is not UP
(R56, R160). -/
def State.sentUp (r : Reply) (s : State) : State :=
  if s.uPort.state = .up then { s with replyQueue := s.replyQueue ++ [r] }
  else { s with discardedReplies := s.discardedReplies + 1#32 }

/-- A slot of the reply queue is free, or replies are discarded because the U port is not UP (R160). -/
def State.replyFits (s : State) : Prop := s.uPort.state = .up → s.replyQueue.length < 32

/-- A fault of the completion unit or the tag pool about tag `t`, naming requester `q` (Table 8-1). -/
def tagFault (kind : FaultKind) (q : Fin 16) (t : Fin 48) (r : TagRecord) : FaultReport :=
  { kind := kind, port := some .d, requester := some q, region := some r.index, tag := some t }

/-- The state in which tag `t` has expired: EXPIRED with its reclaim deadline, four times T from now (R63, R64). -/
def State.tagExpired (t : Fin 48) (s : State) : State :=
  { s with tags := s.tags.set t { s.tags[t] with
      state := .expired, deadline := some (s.timeBase + 4#32 * s.replyTimeout.setWidth 32), reached := false } }

/-- The deadline of a tag is reached, now or at an earlier moment (R64, R65). -/
def State.deadlinePassed (s : State) (t : Fin 48) : Prop :=
  ∃ d, (s.tags[t]).deadline = some d ∧ ((s.tags[t]).reached = true ∨ (s.timeBase - d).toNat < 2 ^ 31)

/-- The state after a refusal at admission: the fault, the refused counter, and the reply to a request that is not a
PW (R30, R36). -/
def State.turnedDown (r : Request) (status : Status) (fault : FaultReport) (s : State) : State :=
  let x := s.requesters[r.requester]
  { s.takeFault fault with
    requesters := s.requesters.set r.requester { x with refused := x.refused + 1#32 }
    replyQueue := s.replyQueue ++ (if r.kindCode = 1 then [] else [.completion r.requester r.tag status []]) }

/-- A fault of admission, by port, kind and region index (Table 8-1). -/
def faultAt (port : Port) (kind : FaultKind) (r : Request) (region : Option (Fin 64)) : FaultReport :=
  { kind := kind, port := some port, requester := some r.requester, region := region, address := r.address }

/-- A waiting admission packet that lacked a tag is to be weighed again (R46). -/
def wokenByTag (w : Option AdmissionWait) : Option AdmissionWait :=
  w.map (fun w => { w with again := w.again || w.tag })

/-- A tag record that has become FREE (R50). -/
def TagRecord.released (r : TagRecord) : TagRecord := { r with state := .free, deadline := none, reached := false }

/-- The state with tag `t` FREE and at the tail of the free tag list (R50, R51). -/
def State.tagReturned (t : Fin 48) (s : State) : State :=
  { s with
    tags := s.tags.set t (s.tags[t]).released
    freeTags := s.freeTags ++ [t]
    admissionWait := wokenByTag s.admissionWait }

/-- The state with the outstanding count of `q` lowered by one (R35). -/
def State.owesOneLess (q : Fin 16) (s : State) : State :=
  { s with requesters := s.requesters.set q { s.requesters[q] with outstanding := (s.requesters[q]).outstanding - 1 } }

/-- The state with one more item counted at index `i` (R12, R13). -/
def State.oneMoreInFlight (i : Fin 64) (s : State) : State :=
  { s with
    regions := s.regions.set i { s.regions[i] with inFlight := (s.regions[i]).inFlight + 1 }
    currentTotal := s.currentTotal + 1 }

/-- The management row of a write of `value` to the aperture word at `offset` (Tables 9-1, 9-3, 12-2, 12-6). -/
def managementRow (a : Access) (offset : BitVec 16) (value : Word) : Instr :=
  let operand : BitVec 16 := value.extractLsb' 8 16
  match apertureWord offset.toNat with
  | .command =>
    match commandOf (value.extractLsb' 0 8) with
    | some .commit => .commit a operand
    | some .cancel => .cancel a operand
    | some .revert => .revert a operand
    | some .quiesce => .quiesce a operand
    | some .resume => .resume a operand
    | some .digestClear => .digestClear a operand
    | some .fence => .fence a operand
    | some .unfence => .unfence a operand
    | some .logPop => .logPop a operand
    | some .logClear => .logClear a operand
    | some .noticeArm => .noticeArm a operand
    | some .noticeAck => .noticeAck a operand
    | some .channelStart => .channelStart a operand
    | some .channelStop => .channelStop a operand
    | some .channelResume => .channelResume a operand
    | some .linkRetrain => .linkRetrain a operand
    | some .countersClear => .countersClear a operand
    | some .restart => .restart a operand
    | none => .unknownCommand a (value.extractLsb' 0 8) operand
  | .staging r w => .stagingWrite a r w value
  | .requester q w => if w = 0 then .requesterRecordWrite a q value else .readOnlyWrite a (offset.extractLsb' 2 14) value
  | .replyTimeout => .replyTimeoutWrite a value
  | .noticeConfiguration => .noticeConfigurationWrite a value
  | .channelConfiguration c w => .channelConfigurationWrite a c w value
  | _ => .readOnlyWrite a (offset.extractLsb' 2 14) value

/-! ### Words of the statements: issue -/

/-- What a place of the arbiter offers, where it offers something: the head entry, or a channel's formed request that
needs no tag or holds it (Table 5-2, R78). -/
def State.offer (s : State) : Candidate → Option IssueEntry
  | .queue => s.issueQueue.head?
  | .channel0 => (((s.channels[(0 : Fin 2)]).formed.map FormedRequest.entry).filter (fun e => e.kind == .pw || e.tag.isSome))
  | .channel1 => (((s.channels[(1 : Fin 2)]).formed.map FormedRequest.entry).filter (fun e => e.kind == .pw || e.tag.isSome))

/-- The three places in the order of a grant, beginning after the last granted one (R80). -/
def grantOrder : Candidate → List Candidate
  | .queue => [.channel0, .channel1, .queue]
  | .channel0 => [.channel1, .queue, .channel0]
  | .channel1 => [.queue, .channel0, .channel1]

/-- The words of the packet formed from a granted request (R81). -/
def packetOf (e : IssueEntry) : List Word :=
  writeRequest e.kind e.requester (match e.tag with
    | some t => t.val
    | none => 0) e.address e.wordCount e.firstEnables e.lastEnables e.data

/-- The digest records after the issue of `e` by `writer`, where the active entry of its index has digest on
(R83, R107). -/
def State.digestsAfter (s : State) (e : IssueEntry) (writer : Writer) : Vector Digest 64 :=
  if e.kind ≠ .rd ∧ (s.active[e.index]).digest = true then
    s.digests.set e.index
      { sum := (s.digests[e.index]).sum + maskedSum e.firstEnables e.lastEnables e.data
        wordCount := (s.digests[e.index]).wordCount + BitVec.ofNat 32 e.wordCount
        lastWriter := some writer }
  else s.digests

/-- The state once `e` has been sent, absorbed, and its tag put to WAITING or its item ended (R53, R81 to R83). -/
def State.issued (e : IssueEntry) (writer : Writer) (s : State) : State :=
  let t : State := { s with
    dPort := s.dPort.afterSending (packetOf e) s.timeBase
    wire := s.wire ++ [.unit .d (unitBytes (wrapUnit s.dPort.nextSeq (packetOf e)))]
    digests := s.digestsAfter e writer }
  match e.tag with
  | some g => { t with
      tags := s.tags.set g { s.tags[g] with
        state := .waiting, deadline := some (s.timeBase + s.replyTimeout.setWidth 32), reached := false } }
  | none => t.fall e.index e.generation

/-! ### Words of the statements: channels -/

/-- The request that channel `c` forms for its owner (R81, R92, R93). -/
def requestOf (owner : Fin 16) (p : Passage) (n : Nat) (data : List Word) (tag : Option (Fin 48)) : IssueEntry :=
  { kind := p.kind, requester := owner, tag := tag, address := p.address, wordCount := n, firstEnables := 0xF#4,
    lastEnables := if n = 1 then 0x0#4 else 0xF#4, data := data, index := p.index, generation := p.generation }

/-- The tag record of a channel's request (R52, R94). -/
def tagRecordOf (c : Fin 2) (owner : Fin 16) (p : Passage) (n : Nat) (kind : TagKind) : TagRecord :=
  { state := .queued, owner := .channel, ownerRequester := owner, upstreamTag := 0#8, ownerChannel := c,
    kind := kind, wordCount := n, index := p.index, generation := p.generation, deadline := none, reached := false }

/-- A channel record without tag `t` (R61, R63). -/
def Channel.withoutTag (t : Fin 48) (ch : Channel) : Channel :=
  { ch with
    tagsHeld := ch.tagsHeld.filter (fun u => u != t)
    readList := ch.readList.filter (fun i => i.tag != some t) }

/-- A channel record that has become HALTED: it holds and forms nothing (R101). -/
def Channel.stopped (ch : Channel) : Channel :=
  { ch with state := .halted, tagsHeld := [], readList := [], writeList := [], formed := none }

/-- The state in which channel `c` has become HALTED from the record `ch`: the CHANNEL_HALT fault unless STOPPED, and
the notice cause when notify on halt is yes (R101). -/
def State.halted (c : Fin 2) (ch : Channel) (s : State) : State :=
  let kept := s.setChannel c ch.stopped
  let told :=
    if ch.haltCause = .stopped then kept
    else kept.takeFault
      { kind := .channelHalt
        port := if ch.haltCause = .targetError ∨ ch.haltCause = .timeout ∨ ch.haltCause = .linkDown then some .d else none
        requester := some ch.owner
        region := ch.haltIndex
        address := ch.haltAddress
        detail := some (.halt ch.haltCause) }
  if ch.notifyOnHalt = true then
    { told with pendingCauses := told.pendingCauses ||| (if c = 0 then 0x08#6 else 0x10#6) }
  else told

/-! ### Words of the statements: the aperture (12.2) -/

/-- A word shows exactly the fields listed, each as its low bit, its width and its value; every other bit is 0
(Table 12-7). -/
def showsFields (w : Word) (fields : List (Nat × Nat × Nat)) : Prop :=
  ∀ i : Fin 32, w.getLsbD i.val =
    fields.any (fun f => decide (f.1 ≤ i.val) && decide (i.val < f.1 + f.2.1) && f.2.2.testBit (i.val - f.1))

/-- What a field that may be absent reads: 0 while it is (R172). -/
def shownFin {n : Nat} (x : Option (Fin n)) : Nat := (x.map Fin.val).getD 0

/-- The rows of Table 12-6: the first offset, the distance between records, how many records, how many words each. -/
def apertureRows : List (Nat × Nat × Nat × Nat) :=
  [(0x0000, 0, 1, 1), (0x0004, 0, 1, 3), (0x0020, 0, 1, 1), (0x0030, 0, 1, 1), (0x0040, 0, 1, 1), (0x0044, 0, 1, 1),
    (0x0080, 0, 1, 2), (0x0088, 0, 1, 6), (0x0100, 0x20, 16, 5), (0x0400, 0, 1, 3), (0x0500, 4, 64, 1),
    (0x0800, 0x10, 64, 3), (0x1000, 0x10, 64, 4), (0x1800, 0x10, 64, 4), (0x2000, 0, 1, 1), (0x2100, 0x10, 48, 3),
    (0x3000, 0x40, 2, 3), (0x3100, 0x80, 2, 10), (0x3140, 0x80, 2, 8), (0x4000, 0, 1, 15), (0x4100, 0, 1, 15)]

/-- The writable rows of Table 12-6; of a requester record, word 0 alone. -/
def writableRows : List (Nat × Nat × Nat × Nat) :=
  [(0x0000, 0, 1, 1), (0x0030, 0, 1, 1), (0x0040, 0, 1, 1), (0x0100, 0x20, 16, 1), (0x1000, 0x10, 64, 4),
    (0x3000, 0x40, 2, 3)]

/-- An offset stands in one of the rows. -/
def inRows (rows : List (Nat × Nat × Nat × Nat)) (offset : Nat) : Prop :=
  ∃ row ∈ rows, ∃ i w : Nat, i < row.2.2.1 ∧ w < row.2.2.2 ∧ offset = row.1 + row.2.1 * i + 4 * w

/-- The word that a management read of an offset returns (R127, R129). -/
def State.readAt (s : State) (offset : Nat) : Word := s.readAperture (apertureWord offset)

/-! ### Words of the statements: fences -/

/-- The tags that the queued entries of requester `q` hold (R47). -/
def State.flushedTags (s : State) (q : Fin 16) : List (Fin 48) :=
  (s.issueQueue.filter (fun e => e.requester == q)).filterMap IssueEntry.tag

end Sys2Proof.Machine
end

