-- ==== Sys2Proof/Certificates/Slice0/Obligations.lean ====
section
/-! DEFINITION. The statements about the gate, each a proposition under `Obligations`. Where a hypothesis or a value
is the model's own choice, the docstring names the log entry. Throughout, `wire` is the model's record of what is sent
(log entry 7), `mayManage` is what admission has established when it hands a management row over (log entry 5), and an
event that cannot occur changes nothing (log entry 2). -/
section

open Sys2Proof Sys2Proof.Machine

/-! ### The step -/

/-- The command at the front of the queue is run on the state with the queue's rest. -/
def Obligations.StepRunsTheFrontCommand : Prop :=
  ∀ (s : State) (c : Instr) (rest : List Instr),
    s.pending = c :: rest → step s = exec c { s with pending := rest }

/-- On an empty queue one microsecond passes (the model's choice, log entry 3): the time base counts and each
deadline that it reaches is marked reached; nothing changes while the reset pin is held (R163). -/
def Obligations.EmptyQueueLetsOneMicrosecondPass : Prop :=
  ∀ s : State, s.pending = [] →
    (s.resetHeld = true → step s = .next s) ∧
    (s.resetHeld = false →
      ∃ t, step s = .next t ∧ t = { s with timeBase := s.timeBase + 1#32, tags := t.tags } ∧
        ∀ i : Fin 48,
          (∀ d, (s.tags[i]).deadline = some d →
            t.tags[i] = { s.tags[i] with
              reached := (s.tags[i]).reached || decide ((s.timeBase + 1#32 - d).toNat < 2 ^ 31) }) ∧
          ((s.tags[i]).deadline = none → t.tags[i] = s.tags[i]))

/-- No command stops the gate, and none touches the queue (the model's reading of the spec, log entry 26). -/
def Obligations.EveryCommandAnswersANextState : Prop :=
  ∀ (c : Instr) (s : State), ∃ t, exec c s = .next t ∧ t.pending = s.pending

/-! ### The laws -/

/-- The state after reset has every law. -/
def Obligations.ResetStateHasEveryLaw : Prop :=
  State.reset.logLaw ∧ State.reset.queueLaw ∧ State.reset.portLaw ∧ State.reset.commandLaw ∧ State.reset.bankLaw ∧
    State.reset.quiesceLaw ∧ State.reset.tagLaw ∧ State.reset.outstandingLaw ∧ State.reset.channelLaw ∧
    State.reset.tagUseLaw ∧ State.reset.accountLaw ∧ State.reset.loadingLaw ∧ State.reset.managerLaw

/-- Every step keeps the fault log within 32 records and its counts within 65535 (R114), the two queues within 32
places, the reply queue empty while the U port is not UP (R73, R160, R161), the command status consistent (R131), and
a QUIESCED index at an in-flight count of zero, a QUIESCING one above it (R23). -/
def Obligations.LogQueueCommandAndRunStateLawsKept : Prop :=
  ∀ s t : State, step s = .next t →
    (s.logLaw → t.logLaw) ∧ (s.queueLaw → t.queueLaw) ∧ (s.commandLaw → t.commandLaw) ∧
      (s.quiesceLaw → t.quiesceLaw)

/-- Every step keeps the laws of the two ports: the replay store consecutive and within 16, buffers never overfilled,
peer credit within its ceiling, no credit granted while LOADING (R139, R146, R152, R153, R157, R159). -/
def Obligations.PortLawKept : Prop := ∀ s t : State, s.portLaw → step s = .next t → t.portLaw

/-- Every step keeps the active bank free of overlaps and of the aperture (the law held by the commit, R18). -/
def Obligations.BankLawKept : Prop :=
  ∀ s t : State, s.commandLaw → s.bankLaw → step s = .next t → t.bankLaw

/-- Every step keeps each tag either once on the free tag list or in use (the law held by the tag pool, R51). -/
def Obligations.TagLawKept : Prop := ∀ s t : State, s.tagLaw → step s = .next t → t.tagLaw

/-- Every step keeps each channel within four tags and holding nothing in IDLE and HALTED (R94). -/
def Obligations.ChannelLawKept : Prop := ∀ s t : State, s.channelLaw → step s = .next t → t.channelLaw

/-- Every step keeps the tags held by the channels and by the issue queue equal to the tags whose records say so. -/
def Obligations.TagUseLawKept : Prop :=
  ∀ s t : State, s.tagLaw → s.channelLaw → s.tagUseLaw → step s = .next t → t.tagUseLaw

/-- Every step keeps the in-flight counts and the two totals equal to the numbers of in-flight items, every one of
the current or the previous generation (R11 to R13, and the law held by the drain, R18). -/
def Obligations.AccountLawKept : Prop :=
  ∀ s t : State, s.commandLaw → s.tagLaw → s.channelLaw → s.accountLaw → step s = .next t → t.accountLaw

/-- Every step keeps each outstanding count equal to the number of tags owed and at most 16 (R35). -/
def Obligations.OutstandingLawKept : Prop :=
  ∀ s t : State, s.tagLaw → s.loadingLaw → s.outstandingLaw → step s = .next t → t.outstandingLaw

/-- Every step keeps the gate quiet while the mode is LOADING (R32, R163, R170), and with that an OPEN requester with
the management right once loading has ended (R34). -/
def Obligations.LoadingAndManagerLawsKept : Prop :=
  ∀ s t : State, s.portLaw → s.commandLaw → s.channelLaw → s.loadingLaw → step s = .next t →
    t.loadingLaw ∧ (s.managerLaw → t.managerLaw)

/-! ### The region table -/

/-- Lookup takes bits 35 to 12 of the address and finds the valid entry that contains that page, or ends in MISS; in
a lawful bank there is no other such entry (R3). -/
def Obligations.LookupYieldsTheOneEntry : Prop :=
  ∀ (b : Bank) (a : Address),
    let page := (a.extractLsb' 12 24).toNat
    let inside (r : Fin 64) : Prop :=
      (b[r]).valid = true ∧ (b[r]).upstreamBase.toNat ≤ page ∧
        page < (b[r]).upstreamBase.toNat + (b[r]).pageCount.toNat
    page = pageOf a.toNat ∧
    (lookup b page = none ↔ ∀ r : Fin 64, ¬inside r) ∧
    (∀ r : Fin 64, lookup b page = some r → inside r) ∧
    (bankLawful b → ∀ r : Fin 64, inside r → lookup b page = some r)

/-- The region check: lookup, span, permission, run state, in that order, and what a passing request is given; in a
lawful bank the translation does not wrap (R4 to R8). -/
def Obligations.RegionCheckOrder : Prop :=
  ∀ (s : State) (address n : Nat) (kind : RequestKind) (q : Fin 16), 1 ≤ n →
    (lookup s.active (address / 4096) = none → s.regionCheck address n kind q = .miss) ∧
    (∀ r : Fin 64, lookup s.active (address / 4096) = some r →
      let e := s.active[r]
      let lastPage := (address + 4 * (n - 1)) / 4096
      let permitted := if kind = .rd then e.readSet.getLsbD q.val else e.writeSet.getLsbD q.val
      let moved := e.downstreamBase.toNat * 4096 + (address - e.upstreamBase.toNat * 4096)
      (e.upstreamBase.toNat + e.pageCount.toNat ≤ lastPage → s.regionCheck address n kind q = .span r) ∧
      (lastPage < e.upstreamBase.toNat + e.pageCount.toNat →
        (permitted = false → s.regionCheck address n kind q = .permission r) ∧
        (permitted = true → (s.regions[r]).runState ≠ .opened → s.regionCheck address n kind q = .paused r) ∧
        (permitted = true → (s.regions[r]).runState = .opened →
          s.regionCheck address n kind q =
            .pass { index := r, address := BitVec.ofNat 36 moved,
                    kind := if kind = .pw ∧ e.mode = .confirm then .cw else kind, generation := s.generation }) ∧
        (bankLawful s.active → (BitVec.ofNat 36 moved).toNat = moved ∧
          moved + 4 * n ≤ (e.downstreamBase.toNat + e.pageCount.toNat) * 4096 + address % 4)))

/-- Validation passes exactly when every valid entry passes its tests; otherwise it reports the first entry that
fails, its first failing test, and for OVERLAP the lowest other entry (R15). -/
def Obligations.ValidationFindsTheFirstFailure : Prop :=
  ∀ b : Bank,
    (validate b = none ↔ ∀ i : Fin 64, (b[i]).valid = true → entryPasses b i) ∧
    (∀ (i : Fin 64) (cause : ValidationCause) (other : Option (Fin 64)), validate b = some (i, cause, other) →
      (b[i]).valid = true ∧ (∀ j : Fin 64, j < i → (b[j]).valid = true → entryPasses b j) ∧
      (cause ≠ .countZero → 1 ≤ (b[i]).pageCount.toNat) ∧
      (cause ≠ .countZero → cause ≠ .upWrap → (b[i]).upstreamEnd ≤ 0x1000000) ∧
      (cause = .aperture ∨ cause = .overlap → (b[i]).downstreamEnd ≤ 0x1000000) ∧
      (cause = .countZero → (b[i]).pageCount.toNat = 0) ∧
      (cause = .upWrap → 0x1000000 < (b[i]).upstreamEnd) ∧
      (cause = .downWrap → 0x1000000 < (b[i]).downstreamEnd) ∧
      (cause = .aperture → 0xFFFFF0 < (b[i]).upstreamEnd) ∧
      (cause ≠ .overlap → other = none) ∧
      (cause = .overlap → (b[i]).upstreamEnd ≤ 0xFFFFF0 ∧
        ∃ j : Fin 64, other = some j ∧ j < i ∧ (b[j]).valid = true ∧
          (b[i]).upstreamBase.toNat < (b[j]).upstreamEnd ∧ (b[j]).upstreamBase.toNat < (b[i]).upstreamEnd ∧
          ∀ k : Fin 64, k < j → (b[k]).valid = true →
            (b[i]).upstreamEnd ≤ (b[k]).upstreamBase.toNat ∨ (b[k]).upstreamEnd ≤ (b[i]).upstreamBase.toNat))

/-- The swap copies the staging bank, advances the generation, shifts the totals, records DONE, makes COMMAND pending
and leaves SAFE; at the end of loading it also grants the withheld credit. Nothing else changes (R18, R26, R167). The
ignored bits of a CREDIT's value byte are sent as 0 (the model's choice, log entry 33). -/
def Obligations.SwapMakesStagingActive : Prop :=
  ∀ s : State,
    let t : State := { s with
      active := s.staging
      generation := s.generation + 1#8
      previousTotal := s.currentTotal
      currentTotal := 0
      command := { s.command with
        busy := false, phase := none, lastResult := some .done, invalidEntry := none, invalidCause := none,
        invalidOther := none }
      mode := .normal
      pendingCauses := s.pendingCauses ||| 0x02#6 }
    (s.mode ≠ .loading → s.swap = t) ∧ (s.mode = .loading → s.swap = t.creditGranted)

/-- The end of an in-flight item lowers the count of its index and the total of its generation; a QUIESCING index
that reaches zero becomes QUIESCED, and a commit in DRAIN whose previous generation is gone swaps (R12, R13, R17,
R23). -/
def Obligations.EndOfAnItemLowersItsCounts : Prop :=
  ∀ (s : State) (i : Fin 64) (g : BitVec 8), 1 ≤ (s.regions[i]).inFlight →
    let drained := (s.regions[i]).runState = .quiescing ∧ (s.regions[i]).inFlight = 1
    let t : State := { s with
      regions := s.regions.set i
        { runState := if drained then .quiesced else (s.regions[i]).runState
          inFlight := (s.regions[i]).inFlight - 1 }
      pendingCauses := if drained then s.pendingCauses ||| 0x04#6 else s.pendingCauses
      currentTotal := if g = s.generation then s.currentTotal - 1 else s.currentTotal
      previousTotal := if g = s.generation - 1#8 then s.previousTotal - 1 else s.previousTotal }
    (s.command.phase = some .drain → t.previousTotal = 0 → s.fall i g = t.swap) ∧
    (s.command.phase ≠ some .drain ∨ t.previousTotal ≠ 0 → s.fall i g = t)

/-! ### The fault log -/

/-- A fault coalesces into the newest record, is appended as a new record, or is lost (R115). -/
def Obligations.FaultIsCoalescedAppendedOrLost : Prop :=
  ∀ (s : State) (f : FaultReport),
    let agrees (r : FaultRecord) : Prop :=
      f.kind = r.report.kind ∧ f.requester = r.report.requester ∧ f.region = r.report.region
    (∀ rest newest, s.faultLog = rest ++ [newest] → agrees newest →
      s.takeFault f = { s with
        faultLog := rest ++ [{ newest with
          repeatCount := if newest.repeatCount < 65535 then newest.repeatCount + 1 else newest.repeatCount }]
        pendingCauses := s.pendingCauses ||| 0x01#6 }) ∧
    ((∀ rest newest, s.faultLog = rest ++ [newest] → ¬agrees newest) →
      (s.faultLog.length < 32 →
        s.takeFault f = { s with
          faultLog := s.faultLog ++ [{ report := f, firstTime := s.timeBase, repeatCount := 0 }]
          pendingCauses := s.pendingCauses ||| 0x01#6 }) ∧
      (32 ≤ s.faultLog.length →
        s.takeFault f = { s with
          lostCount := if s.lostCount < 65535 then s.lostCount + 1 else s.lostCount }))

/-! ### Reset and loading -/

/-- The values at power-on reset that the rules of R163 give, record by record (R1, R9, R10, R13, R32, R50, R51, R55,
R73, R78, R86, R87, R106, R114, R120, R131, R159, R160, R162). The ports, whose state the rules leave to the release,
are in the model's DOWN, as are a FREE tag's owner channel 0 and the pin held (log entry 6). That nothing waits, no
deadline is reached, and nothing has been sent or read is the model's own bookkeeping (log entries 2, 7, 8, 29). -/
def Obligations.PowerOnValues : Prop :=
  let s := State.reset
  (∀ i : Fin 64, s.active[i] = s.staging[i] ∧
    s.active[i] = { valid := false, upstreamBase := 0#24, pageCount := 0#25, downstreamBase := 0#24, readSet := 0#16,
                    writeSet := 0#16, mode := .posted, digest := false }) ∧
  s.generation = 0#8 ∧ s.currentTotal = 0 ∧ s.previousTotal = 0 ∧
  (∀ i : Fin 64, s.regions[i] = { runState := .opened, inFlight := 0 }) ∧
  (∀ q : Fin 16, s.requesters[q] =
    { state := .opened, right := false, limit := 4, outstanding := 0, admitted := 0#32, refused := 0#32,
      retried := 0#32 }) ∧
  (∀ t : Fin 48, s.tags[t] =
    { state := .free, owner := .requester, ownerRequester := 0, upstreamTag := 0#8, ownerChannel := 0, kind := .rd,
      wordCount := 1, index := 0, generation := 0#8, deadline := none, reached := false }) ∧
  s.freeTags.map Fin.val = List.range 48 ∧ s.issueQueue = [] ∧ s.lastGranted = .channel1 ∧
  (∀ c : Fin 2, s.channels[c] =
    { owner := 0, firstDescriptor := 0#36, notifyOnHalt := false, state := .idle, currentAddress := 0#36,
      descriptor := none, wordsRemaining := 0, haltCause := .none, haltIndex := none, haltAddress := none,
      completed := 0#32, scanSum := 0#32, scanCount := 0#32, tagsHeld := [], readList := [], writeList := [],
      formed := none }) ∧
  (∀ i : Fin 64, s.digests[i] = { sum := 0#32, wordCount := 0#32, lastWriter := none }) ∧
  s.replyTimeout = 2000#16 ∧ s.faultLog = [] ∧ s.lostCount = 0 ∧ s.pendingCauses = 0#6 ∧ s.armed = true ∧
  s.noticeRequester = none ∧ s.enabledCauses = 0#6 ∧
  s.command =
    { busy := false, phase := none, lastCommand := none, lastOperand := 0#16, lastIssuer := none,
      lastResult := some .nothing, invalidEntry := none, invalidCause := none, invalidOther := none } ∧
  s.mode = .loading ∧ s.timeBase = 0#32 ∧ s.serialSelect = false ∧ s.loader = none ∧ s.resetHeld = true ∧
  (∀ p : Port, s.port p =
    { state := .down, advertised := 0, withholds := false, peerCredit := 0, peerCeiling := 0, allowance := 0,
      owedCredit := 0, nextSeq := 0#7, expectedSeq := 0#7, replayStore := [], replay := none, ackTimer := none,
      retryRun := 0, retrySent := false, ackOwed := false, initDue := none, inbound := []
      counters :=
        { unitsSent := 0#32, unitsResent := 0#32, replays := 0#32, unitsAccepted := 0#32, badUnits := 0#32,
          gapUnits := 0#32, duplicateUnits := 0#32, earlyUnits := 0#32, badSymbols := 0#32, linkLosses := 0#32 } }) ∧
  s.discardedReplies = 0#32 ∧ s.replyQueue = [] ∧
  s.admissionWait = none ∧ s.completionWait = none ∧ s.wire = [] ∧ s.pending = []

/-- The pin, made active, returns the gate to its power-on values whatever it was doing; held, it lets nothing act
but its own release; released, it starts the time base, the two ports and the image read (R163, R144, R164). -/
def Obligations.ResetPinHoldsAndReleases : Prop :=
  (∀ s : State, exec .resetAssert s = .next { State.reset with pending := s.pending, wire := s.wire }) ∧
  (∀ (queue : List Instr) (sent : List Sent) (c : Instr), c ≠ .resetRelease →
    exec c { State.reset with pending := queue, wire := sent } =
      .next { State.reset with pending := queue, wire := sent }) ∧
  (∀ s : State, s.resetHeld = true →
    exec .resetRelease s = .next { State.reset with
      resetHeld := false
      uPort := State.reset.uPort.fresh 0 0#32
      dPort := State.reset.dPort.fresh 16 0#32
      loader := some []
      serialSelect := true
      wire := s.wire ++ [symbolOn .u 1#8 0#8, symbolOn .d 1#8 16#8, .serial 0x03#8, .serial 0x00#8, .serial 0x00#8,
        .serial 0x00#8]
      pending := s.pending })

/-- A word of the image is gathered, least significant byte first, while no check fails and more words are needed; the
first check that fails ends the load as a failure with its detail (R164, R165, R168, R169). The ignored bits of the
value byte of the CREDIT that this may send are 0 (the model's choice, log entry 33). -/
def Obligations.ImageWordIsGatheredOrEndsTheLoad : Prop :=
  ∀ (s : State) (words : List Word) (b0 b1 b2 b3 : Byte), s.loader = some words →
    let w : Word := b3 ++ b2 ++ b1 ++ b0
    let read := words ++ [w]
    let n := (read.getD 2 0#32).toNat
    let whole := 4 ≤ read.length ∧ 22 + 4 * n ≤ read.length
    let sum := read.foldl (· + ·) 0#32
    let managed := ∃ q : Fin 16, (read.getD (3 + q.val) 0#32).getLsbD 0 = true
    let failed (cause : ImageCause) := exec (.imageWord b0 b1 b2 b3) s = .next (s.loadFailed cause none none)
    ((read.length = 1 ∧ w = 0x485A3640#32) ∨ (read.length = 2 ∧ w = 1#32) ∨ (read.length = 3 ∧ w.toNat ≤ 64) ∨
        (4 ≤ read.length ∧ read.length < 22 + 4 * n) →
      exec (.imageWord b0 b1 b2 b3) s = .next { s with loader := some read }) ∧
    (read.length = 1 → w ≠ 0x485A3640#32 → failed .absent) ∧
    (read.length = 2 → w ≠ 1#32 → failed .format) ∧
    (read.length = 3 → 64 < w.toNat → failed .format) ∧
    (whole → sum ≠ 0#32 → failed .sum) ∧
    (whole → sum = 0#32 → ¬managed → failed .format)

/-- The check word of a good image fills the requester table, the reply timeout, the notice configuration and the
staging bank, ends the read and begins the image commit; nothing else changes (R166, R21). -/
def Obligations.GoodImageFillsTheTables : Prop :=
  ∀ (s : State) (words : List Word) (b0 b1 b2 b3 : Byte), s.loader = some words →
    let w : Word := b3 ++ b2 ++ b1 ++ b0
    let read := words ++ [w]
    let n := (read.getD 2 0#32).toNat
    4 ≤ read.length → 22 + 4 * n ≤ read.length → read.foldl (· + ·) 0#32 = 0#32 →
    (∃ q : Fin 16, (read.getD (3 + q.val) 0#32).getLsbD 0 = true) →
    ∃ t, exec (.imageWord b0 b1 b2 b3) s = .next t ∧
      t = { s with
        loader := none
        serialSelect := false
        requesters := t.requesters
        replyTimeout := timeoutOfWord (read.getD 19 0#32)
        noticeRequester := noticeRequesterOfWord (read.getD 20 0#32)
        enabledCauses := (read.getD 20 0#32).extractLsb' 8 6
        staging := t.staging
        command := { busy := true, phase := some .validate, lastCommand := some 0x01#8, lastOperand := 0#16,
                     lastIssuer := none, lastResult := none, invalidEntry := none, invalidCause := none,
                     invalidOther := none } } ∧
      (∀ q : Fin 16, t.requesters[q] = { s.requesters[q] with
        right := (read.getD (3 + q.val) 0#32).getLsbD 0, limit := limitOfWord (read.getD (3 + q.val) 0#32) }) ∧
      (∀ k : Fin 64, t.staging[k] =
        if k.val < n then
          entryOfWords (read.getD (21 + 4 * k.val) 0#32) (read.getD (22 + 4 * k.val) 0#32)
            (read.getD (23 + 4 * k.val) 0#32) (read.getD (24 + 4 * k.val) 0#32)
        else s.staging[k])

/-- The end of a validation: INVALID with the failing entry, which during loading also ends the load as a failure;
DRAIN while the previous generation has items; the swap when it has none (R16, R17, R134, R167, R168). The ignored bits
of the value byte of the CREDIT that ends a load are 0 (the model's choice, log entry 33). -/
def Obligations.ValidationEndDecidesTheCommit : Prop :=
  ∀ s : State, s.command.busy = true → s.command.phase = some .validate →
    (∀ (i : Fin 64) (cause : ValidationCause) (other : Option (Fin 64)),
      validate s.staging = some (i, cause, other) →
      let t : State := { s with
        command := { s.command with
          busy := false, phase := none, lastResult := some .invalid, invalidEntry := some i,
          invalidCause := some cause, invalidOther := other }
        pendingCauses := s.pendingCauses ||| 0x02#6 }
      (s.mode ≠ .loading → exec .validationEnd s = .next t) ∧
      (s.mode = .loading → s.loader = none → s.serialSelect = false →
        exec .validationEnd s = .next (t.loadFailed (.validation cause) (some i) other))) ∧
    (validate s.staging = none →
      (s.previousTotal ≠ 0 →
        exec .validationEnd s = .next { s with command := { s.command with phase := some .drain } }) ∧
      (s.previousTotal = 0 →
        exec .validationEnd s = .next (State.swap { s with command := { s.command with phase := some .drain } })))

/-! ### The link: arrivals -/

/-- A link unit in UP is accepted in order, refused without allowance, answered as a duplicate, reported as a gap or
counted as bad; in INIT it is early (R148 to R152, R144). That a duplicate's ACK leaves an acknowledgement owed is the
model's reading, log entry 10; that the ignored bit 7 of the value byte of ACK and RETRY is sent as 0 is its choice,
log entry 33. -/
def Obligations.LinkUnitIsClassed : Prop :=
  ∀ (p : Port) (s : State) (bytes : List Byte),
    let l := s.port p
    let run := exec (.linkUnitReceive p bytes) s
    (l.state = .init →
      run = .next (s.setPort p { l with counters := { l.counters with earlyUnits := l.counters.earlyUnits + 1#32 } })) ∧
    (l.state = .up →
      let gapped (x : LinkPort) : State :=
        if l.retrySent = true then s.setPort p x
        else { s.setPort p { x with retrySent := true } with
          wire := s.wire ++ [symbolOn p 3#8 (l.expectedSeq.setWidth 8)] }
      (readUnit bytes = none →
        run = .next (gapped { l with counters := { l.counters with badUnits := l.counters.badUnits + 1#32 } })) ∧
      (∀ (seq : BitVec 7) (packet : List Word), readUnit bytes = some (seq, packet) →
        (seq = l.expectedSeq → 1 ≤ l.allowance →
          run = .next (s.setPort p { l with
            inbound := l.inbound ++ [packet]
            expectedSeq := l.expectedSeq + 1#7
            retrySent := false
            allowance := l.allowance - 1
            ackOwed := true
            counters := { l.counters with unitsAccepted := l.counters.unitsAccepted + 1#32 } })) ∧
        (seq = l.expectedSeq → l.allowance = 0 → run = .next (s.resetPort p .protocol)) ∧
        (∀ k : Nat, 1 ≤ k → k ≤ 63 → seq = l.expectedSeq + BitVec.ofNat 7 k →
          run = .next (gapped { l with counters := { l.counters with gapUnits := l.counters.gapUnits + 1#32 } })) ∧
        (∀ k : Nat, 1 ≤ k → k ≤ 64 → seq = l.expectedSeq - BitVec.ofNat 7 k →
          run = .next { s.setPort p { l with
              counters := { l.counters with duplicateUnits := l.counters.duplicateUnits + 1#32 } } with
            wire := s.wire ++ [symbolOn p 2#8 ((l.expectedSeq - 1#7).setWidth 8)] })))

/-- An INIT brings a port in INIT to UP with the peer's credit, and a U port that still withholds after loading then
grants 16; a port in UP answers an unmarked INIT with its allowance and ignores a marked one (R144, R145, R157,
R158). The ignored bits of a CREDIT's value byte are sent as 0 (the model's choice, log entry 33). -/
def Obligations.InitBringsThePortUp : Prop :=
  ∀ (p : Port) (s : State) (value : Byte),
    let l := s.port p
    let credit := min (value.toNat % 128) 64
    let up : LinkPort := { l with
      state := .up, peerCredit := credit, peerCeiling := if credit = 0 then 64 else credit
      allowance := l.advertised, initDue := none }
    let t : State := { s.setPort p up with pendingCauses := s.pendingCauses ||| 0x20#6 }
    (l.state = .init →
      (p = .d ∨ s.mode = .loading ∨ l.withholds = false → exec (.initReceive p value) s = .next t) ∧
      (p = .u → s.mode ≠ .loading → l.withholds = true → exec (.initReceive p value) s = .next t.creditGranted)) ∧
    (l.state = .up →
      (value.getLsbD 7 = false →
        exec (.initReceive p value) s = .next { s with
          wire := s.wire ++ [symbolOn p 1#8 (BitVec.ofNat 8 (l.allowance % 128 + 128))] }) ∧
      (value.getLsbD 7 = true → exec (.initReceive p value) s = .next s))

/-- In UP an ACK of a stored unit removes it and every older one, and an ACK that names no stored unit changes nothing
(R154); a CREDIT raises the peer credit count up to its ceiling (R157). In INIT neither does anything (R144). A bad
symbol is counted and does nothing else (R143). -/
def Obligations.AckCreditAndBadSymbols : Prop :=
  ∀ (p : Port) (s : State) (value : Byte),
    let l := s.port p
    (∀ (older rest : List LinkUnit) (u : LinkUnit), l.state = .up → l.replayStore = older ++ u :: rest →
      u.seq = value.extractLsb' 0 7 → (∀ v ∈ older, v.seq ≠ value.extractLsb' 0 7) →
      exec (.ackReceive p value) s = .next (s.setPort p (l.afterAck (older.length + 1) rest s.timeBase))) ∧
    (l.state = .up → (∀ u ∈ l.replayStore, u.seq ≠ value.extractLsb' 0 7) →
      exec (.ackReceive p value) s = .next s) ∧
    (l.state = .up →
      exec (.creditReceive p value) s = .next (s.setPort p { l with
        peerCredit := min (l.peerCredit + (value.toNat % 16 + 1)) l.peerCeiling })) ∧
    (l.state = .init → exec (.ackReceive p value) s = .next s ∧ exec (.creditReceive p value) s = .next s) ∧
    (∀ kind check : Byte, l.state ≠ .down → check ≠ crc8 kind value ∨ kind = 0#8 ∨ 6 ≤ kind.toNat →
      exec (.badSymbol p kind value check) s = .next (s.setPort p { l with
        counters := { l.counters with badSymbols := l.counters.badSymbols + 1#32 } }))

/-- A RETRY acknowledges the units before the one it names and begins a replay when it then names the head of the store;
the fifth replay in a row without progress resets the port instead (R155, R156). That nothing is resent in the RETRY's
own event, its first resend being an event of its own, is the model's reading against step 6 of example 10.9 (log
entry 9). -/
def Obligations.RetryAcknowledgesAndReplays : Prop :=
  ∀ (p : Port) (s : State) (value : Byte), (s.port p).state = .up →
    let n : BitVec 7 := value.extractLsb' 0 7
    let l := s.port p
    (∀ (u : LinkUnit) (rest : List LinkUnit), l.replayStore = u :: rest → u.seq = n →
      (∀ v ∈ l.replayStore, v.seq ≠ n - 1#7) →
      (l.retryRun < 4 → exec (.retryReceive p value) s = .next (s.setPort p l.replaying)) ∧
      (4 ≤ l.retryRun → exec (.retryReceive p value) s = .next (s.resetPort p .retryExhausted))) ∧
    (∀ (older rest : List LinkUnit) (u v : LinkUnit), l.replayStore = older ++ u :: v :: rest → u.seq = n - 1#7 →
      (∀ x ∈ older, x.seq ≠ n - 1#7) → v.seq = n →
      exec (.retryReceive p value) s =
        .next (s.setPort p ((l.afterAck (older.length + 1) (v :: rest) s.timeBase).replaying))) ∧
    (∀ (older : List LinkUnit) (u : LinkUnit), l.replayStore = older ++ [u] → u.seq = n - 1#7 →
      (∀ x ∈ older, x.seq ≠ n - 1#7) →
      exec (.retryReceive p value) s = .next (s.setPort p (l.afterAck (older.length + 1) [] s.timeBase))) ∧
    ((∀ u ∈ l.replayStore, u.seq ≠ n ∧ u.seq ≠ n - 1#7) → exec (.retryReceive p value) s = .next s)

/-- The acknowledgement timer, reached with units stored and no replay in progress, begins a replay or resets the
port. During a replay the stored units are resent unchanged, oldest first, and after the last the timer runs again
(R156; that the first resend is an event of its own is the model's reading, log entry 9). Before the timer is reached,
with no timer, nothing stored or a replay in progress nothing begins, and with no replay nothing is resent (that such a
command changes nothing is log entry 2). -/
def Obligations.TimerBeginsAReplayThatResends : Prop :=
  ∀ (p : Port) (s : State),
    let l := s.port p
    (l.state ≠ .up ∨ l.ackTimer = none ∨ (∃ due, l.ackTimer = some due ∧ 2 ^ 31 ≤ (s.timeBase - due).toNat) ∨
        l.replayStore = [] ∨ l.replay ≠ none →
      exec (.acknowledgementTimer p) s = .next s) ∧
    (l.state ≠ .up ∨ l.replay = none → exec (.resend p) s = .next s) ∧
    (∀ due : Word, l.state = .up → l.ackTimer = some due → (s.timeBase - due).toNat < 2 ^ 31 → l.replayStore ≠ [] →
      l.replay = none →
      (l.retryRun < 4 → exec (.acknowledgementTimer p) s = .next (s.setPort p l.replaying)) ∧
      (4 ≤ l.retryRun → exec (.acknowledgementTimer p) s = .next (s.resetPort p .retryExhausted))) ∧
    (∀ (i : Nat) (u : LinkUnit), l.state = .up → l.replay = some i → l.replayStore[i]? = some u →
      exec (.resend p) s = .next { s.setPort p { l with
          replay := if i + 1 < l.replayStore.length then some (i + 1) else none
          ackTimer := if i + 1 < l.replayStore.length then l.ackTimer else some (s.timeBase + 64#32)
          counters := { l.counters with unitsResent := l.counters.unitsResent + 1#32 } } with
        wire := s.wire ++ [.unit p (unitBytes u)] })

/-! ### The link: resets -/

/-- A reset of a port sends RESET unless the peer reset it, clears the port and begins INIT. From UP it is a link
loss: counted, recorded, LINK pending; at the U port the notice unit is armed, the reply queue emptied and counted; at
the D port the other blocks take the loss (R126, R146, R147). A RESET received in INIT or UP is such a reset. (A commit
in DRAIN during loading, which the D clause leaves out, is in no reachable state: loading has no in-flight item.) -/
def Obligations.PortResetClearsAndRestarts : Prop :=
  ∀ (s : State) (cause : ResetCause),
    let told (p : Port) : List Sent := if cause = .peerReset then [] else [symbolOn p 5#8 0#8]
    let uCredit := if s.mode = .loading then 0 else 16
    let counted (l : LinkPort) : LinkPort :=
      { l with counters := { l.counters with linkLosses := l.counters.linkLosses + 1#32 } }
    let recorded (p : Port) : State :=
      s.takeFault { kind := .linkReset, port := some p, detail := some (.reset cause) }
    let uRestarted (t : State) (l : LinkPort) : State := { t with
      uPort := l.fresh uCredit s.timeBase
      wire := s.wire ++ told .u ++ [symbolOn .u 1#8 (BitVec.ofNat 8 uCredit)]
      replyQueue := []
      discardedReplies := s.discardedReplies + BitVec.ofNat 32 s.replyQueue.length
      admissionWait := none
      completionWait := s.completionWait.map (fun _ => true) }
    let dRestarted (t : State) (l : LinkPort) : State := { t with
      dPort := l.fresh 16 s.timeBase
      wire := s.wire ++ told .d ++ [symbolOn .d 1#8 16#8]
      completionWait := none }
    (s.uPort.state ≠ .up → s.resetPort .u cause = uRestarted s s.uPort) ∧
    (s.uPort.state = .up →
      s.resetPort .u cause =
        uRestarted { recorded .u with pendingCauses := (recorded .u).pendingCauses ||| 0x20#6, armed := true }
          (counted s.uPort)) ∧
    (s.dPort.state ≠ .up → s.resetPort .d cause = dRestarted s s.dPort) ∧
    (s.dPort.state = .up → s.mode ≠ .loading ∨ s.command.phase ≠ some .drain →
      s.resetPort .d cause =
        dRestarted
          (State.takeLoss .d { recorded .d with
            dPort := counted s.dPort, pendingCauses := (recorded .d).pendingCauses ||| 0x20#6 })
          (counted s.dPort)) ∧
    (∀ (p : Port) (value : Byte), (s.port p).state ≠ .down →
      exec (.resetReceive p value) s = .next (s.resetPort p .peerReset))

/-- What the other blocks do at the loss of the D port: tags closed or freed, the issue queue emptied, channels
halted, counts at zero, QUIESCING indices QUIESCED, a commit in DRAIN swapped, the faults in the order of R116, each
notice cause that this makes pending, and the admission packet that waits for a tag or an issue slot woken (R18, R27,
R46, R68, R77, R101, R104, R115). (A commit in DRAIN during loading is in no reachable state.) -/
def Obligations.DPortLossSettlesEverything : Prop :=
  ∀ s : State, s.mode ≠ .loading ∨ s.command.phase ≠ some .drain →
    let t := s.takeLoss .d
    let freed := (List.finRange 48).filter (fun i =>
      ((s.tags[i]).inFlight && (s.tags[i]).owner != .requester) || (s.tags[i]).state == .expired)
    let noted := s.takeFaults s.lossFaults
    let told (c : Fin 2) : Prop :=
      ((s.channels[c]).running = true ∨ (s.channels[c]).state = .drain) ∧ (s.channels[c]).notifyOnHalt = true
    (∀ i : Fin 48, t.tags[i] =
      if (s.tags[i]).inFlight = true ∧ (s.tags[i]).owner = .requester then
        { s.tags[i] with state := .closing, deadline := none, reached := false }
      else if (s.tags[i]).inFlight = true ∨ (s.tags[i]).state = .expired then (s.tags[i]).released
      else s.tags[i]) ∧
    t.freeTags = s.freeTags ++ freed ∧ t.issueQueue = [] ∧
    (∀ c : Fin 2,
      let gone : Channel := { s.channels[c] with
        state := .halted, tagsHeld := [], readList := [], writeList := [], formed := none }
      t.channels[c] =
        if (s.channels[c]).running = true then
          { gone with haltCause := .linkDown, haltIndex := none, haltAddress := none }
        else if (s.channels[c]).state = .drain then gone
        else s.channels[c]) ∧
    (∀ r : Fin 64, t.regions[r] =
      { runState := if (s.regions[r]).runState = .quiescing then .quiesced else (s.regions[r]).runState
        inFlight := 0 }) ∧
    t.currentTotal = 0 ∧ t.previousTotal = 0 ∧
    t.active = (if s.command.phase = some .drain then s.staging else s.active) ∧
    t.generation = (if s.command.phase = some .drain then s.generation + 1#8 else s.generation) ∧
    t.faultLog = noted.faultLog ∧ t.lostCount = noted.lostCount ∧
    (t.pendingCauses.getLsbD 0 = true ↔ noted.pendingCauses.getLsbD 0 = true) ∧
    (t.pendingCauses.getLsbD 1 = true ↔ s.pendingCauses.getLsbD 1 = true ∨ s.command.phase = some .drain) ∧
    (t.pendingCauses.getLsbD 2 = true ↔
      s.pendingCauses.getLsbD 2 = true ∨ ∃ r : Fin 64, (s.regions[r]).runState = .quiescing) ∧
    (t.pendingCauses.getLsbD 3 = true ↔ s.pendingCauses.getLsbD 3 = true ∨ told 0) ∧
    (t.pendingCauses.getLsbD 4 = true ↔ s.pendingCauses.getLsbD 4 = true ∨ told 1) ∧
    (t.pendingCauses.getLsbD 5 = true ↔ s.pendingCauses.getLsbD 5 = true) ∧
    t.admissionWait = s.admissionWait.map (fun w => { w with
      again := w.again || (w.tag && !freed.isEmpty) || (w.issue && !s.issueQueue.isEmpty) }) ∧
    t = { s with
      tags := t.tags, freeTags := t.freeTags, issueQueue := [], channels := t.channels, regions := t.regions
      currentTotal := 0, previousTotal := 0, active := t.active, generation := t.generation, faultLog := t.faultLog
      lostCount := t.lostCount, pendingCauses := t.pendingCauses, admissionWait := t.admissionWait
      command := if s.command.phase = some .drain then s.command.commitDone else s.command
      mode := if s.command.phase = some .drain then .normal else s.mode }

/-! ### The link: sending -/

/-- The owed acknowledgement names the newest unit accepted (R149); the owed credit goes as CREDIT(k), at most 16, and
raises the allowance (R152, R158); a port in INIT sends its INIT again when 10 µs have passed (R144), the next one due
10 µs after that moment was due (the model's reading, log entry 20). Before that moment, or with nothing owed, or out of
UP or INIT, nothing is sent (log entry 2). The ignored bits of the value bytes of ACK and CREDIT are sent as 0 (the
model's choice, log entry 33). -/
def Obligations.OwedSymbolsAndInitAreSent : Prop :=
  ∀ (p : Port) (s : State),
    let l := s.port p
    (l.state = .up → l.ackOwed = true →
      exec (.ackSend p) s = .next { s.setPort p { l with ackOwed := false } with
        wire := s.wire ++ [symbolOn p 2#8 ((l.expectedSeq - 1#7).setWidth 8)] }) ∧
    (l.state = .up → 1 ≤ l.owedCredit →
      let k := min l.owedCredit 16
      exec (.creditSend p) s = .next { s.setPort p { l with
          owedCredit := l.owedCredit - k, allowance := l.allowance + k } with
        wire := s.wire ++ [symbolOn p 4#8 (BitVec.ofNat 8 (k - 1))] }) ∧
    (∀ due : Word, l.state = .init → l.initDue = some due → (s.timeBase - due).toNat < 2 ^ 31 →
      exec (.initResend p) s = .next { s.setPort p { l with initDue := some (due + 10#32) } with
        wire := s.wire ++ [symbolOn p 1#8 (BitVec.ofNat 8 (l.advertised % 128))] }) ∧
    (l.state ≠ .up ∨ l.ackOwed = false → exec (.ackSend p) s = .next s) ∧
    (l.state ≠ .up ∨ l.owedCredit = 0 → exec (.creditSend p) s = .next s) ∧
    (l.state ≠ .init ∨ l.initDue = none ∨ (∃ due, l.initDue = some due ∧ 2 ^ 31 ≤ (s.timeBase - due).toNat) →
      exec (.initResend p) s = .next s)

/-! ### Issue -/

/-- Nothing is granted while the D port is not UP, has no peer credit, stores 16 units or replays (R79). Otherwise a grant
goes to the first place in rotation that offers a request; what it issues leaves its place, and a channel then weighs
its next request (R75, R79 to R83, R91). That the digest is taken before a swap of the same issue, and the next request
weighed after it, is the model's reading (log entries 11, 12). A tag offered is QUEUED in every state that has the law
of tag use. -/
def Obligations.GrantGoesInRotation : Prop :=
  ∀ s : State,
    (s.dPort.state ≠ .up ∨ s.dPort.peerCredit = 0 ∨ 16 ≤ s.dPort.replayStore.length ∨ s.dPort.replay ≠ none →
      exec .grant s = .next s) ∧
    (s.dPort.ready →
      (∀ (place : Candidate) (e : IssueEntry),
        ((grantOrder s.lastGranted).find? (fun p => (s.offer p).isSome) = some place) → s.offer place = some e →
        (∀ g, e.tag = some g → (s.tags[g]).state = .queued) →
        (place = .queue →
          let t := State.issued e (.requester e.requester) { s with
            issueQueue := s.issueQueue.tail, lastGranted := .queue }
          exec .grant s = .next { t with
            admissionWait := t.admissionWait.map (fun w => { w with again := w.again || w.issue }) }) ∧
        (∀ c : Fin 2, place = (if c = 0 then .channel0 else .channel1) →
          exec .grant s = .next (State.advance c (State.issued e (.channel c) { s with
            channels := s.channels.set c { s.channels[c] with formed := none }, lastGranted := place })))) ∧
      ((grantOrder s.lastGranted).find? (fun p => (s.offer p).isSome) = none → exec .grant s = .next s))

/-- The word value a digest absorbs: lanes that are off count as zero, the first word masked by the first enables, the
last of several by the last enables, the words between taken whole (R107). -/
def Obligations.DigestSumMasksLanes : Prop :=
  (∀ (enables : BitVec 4) (w : Word) (i : Fin 32),
    (maskLanes enables w).getLsbD i.val = (w.getLsbD i.val && enables.getLsbD (i.val / 8))) ∧
  (∀ (first last : BitVec 4) (w : Word), maskedSum first last [w] = maskLanes first w) ∧
  (∀ (first last : BitVec 4) (w z : Word) (middle : List Word),
    maskedSum first last (w :: middle ++ [z]) = maskLanes first w + middle.foldl (· + ·) 0#32 + maskLanes last z)

/-! ### Admission -/

/-- A request is MALFORMED exactly when one of the tests of R30 holds, or it carries no address word (R171); a
MALFORMED packet is refused, before every other test (R30, R38). -/
def Obligations.MalformedRequestsAreRefused : Prop :=
  (∀ r : Request, wellFormedRequest r = none ↔
    3 ≤ r.kindCode ∨ r.wordCount = 0 ∨ 16 < r.wordCount ∨ (r.kindCode = 0 ∧ r.data ≠ []) ∨
      ((r.kindCode = 1 ∨ r.kindCode = 2) ∧ r.data.length ≠ r.wordCount) ∨ r.firstEnables = 0x0#4 ∨
      (r.wordCount = 1 ∧ r.lastEnables ≠ 0x0#4) ∨ (1 < r.wordCount ∧ r.lastEnables = 0x0#4) ∨ r.address = none ∨
      (∃ a, r.address = some a ∧ 0xFFFFFFFFF < a.toNat + 4 * r.wordCount - 1)) ∧
  (∀ (s : State) (packet : List Word) (rest : List (List Word)), s.admits packet rest →
    let r := readRequest packet
    wellFormedRequest r = none → (r.kindCode ≠ 1 → s.replyQueue.length < 32) →
    exec .admissionEvaluate s = .next ((s.headOffU rest).turnedDown r .malformed (faultAt .u .malformed r none)))

/-- The refusals of a well-formed request, in the order of Table 3-3: fenced, aperture, D port, region check (R39 to
R42). -/
def Obligations.RefusalsGoInOrder : Prop :=
  ∀ (s : State) (packet : List Word) (rest : List (List Word)), s.admits packet rest →
    let r := readRequest packet
    let q := s.requesters[r.requester]
    let down (status : Status) (fault : FaultReport) : Prop :=
      exec .admissionEvaluate s = .next ((s.headOffU rest).turnedDown r status fault)
    ∀ (kind : RequestKind) (address : Address), wellFormedRequest r = some (kind, address) →
      (kind ≠ .pw → s.replyQueue.length < 32) →
      (q.state = .fenced → down .refused (faultAt .u .fenced r none)) ∧
      (q.state = .opened → 0xFFFFF0000 ≤ address.toNat →
        (q.right = false → down .refused (faultAt .u .mgmtDenied r none)) ∧
        (q.right = true → r.wordCount ≠ 1 ∨ r.firstEnables ≠ 0xF#4 →
          down .malformed (faultAt .u .malformed r none))) ∧
      (q.state = .opened → address.toNat < 0xFFFFF0000 →
        (s.dPort.state ≠ .up → down .linkDown (faultAt .d .linkDown r none)) ∧
        (s.dPort.state = .up →
          let check := s.regionCheck address.toNat r.wordCount kind r.requester
          (check = .miss → down .refused (faultAt .u .noRegion r none)) ∧
          (∀ i, check = .span i → down .refused (faultAt .u .span r (some i))) ∧
          (∀ i, check = .permission i → down .refused (faultAt .u .permission r (some i))) ∧
          (∀ i, check = .paused i → down .paused (faultAt .u .paused r (some i)))))

/-- A request that passes the region check is answered RETRY when it is not posted and the limit is reached; otherwise
it is forwarded: queue entry, tag where its downstream kind needs one, counts (R43, R44, R35, R36, R52). -/
def Obligations.PassingRequestsAreForwardedOrRetried : Prop :=
  ∀ (s : State) (packet : List Word) (rest : List (List Word)), s.admits packet rest →
    let r := readRequest packet
    let q := s.requesters[r.requester]
    let t := s.headOffU rest
    ∀ (kind : RequestKind) (address : Address) (p : Passage), wellFormedRequest r = some (kind, address) →
      q.state = .opened → address.toNat < 0xFFFFF0000 → s.dPort.state = .up →
      s.regionCheck address.toNat r.wordCount kind r.requester = .pass p →
      let entry (tag : Option (Fin 48)) : IssueEntry :=
        { kind := p.kind, requester := r.requester, tag := tag, address := p.address, wordCount := r.wordCount,
          firstEnables := r.firstEnables, lastEnables := r.lastEnables, data := r.data, index := p.index,
          generation := p.generation }
      (kind ≠ .pw → q.limit ≤ q.outstanding → s.replyQueue.length < 32 →
        exec .admissionEvaluate s = .next { t with
          requesters := s.requesters.set r.requester { q with retried := q.retried + 1#32 }
          replyQueue := s.replyQueue ++ [.completion r.requester r.tag .retry []] }) ∧
      (kind = .pw ∨ q.outstanding < q.limit → s.issueQueue.length < 32 →
        (p.kind = .pw →
          exec .admissionEvaluate s = .next (State.oneMoreInFlight p.index { t with
            requesters := s.requesters.set r.requester { q with admitted := q.admitted + 1#32 }
            issueQueue := s.issueQueue ++ [entry none] })) ∧
        (p.kind ≠ .pw → ∀ (g : Fin 48) (free : List (Fin 48)), s.freeTags = g :: free →
          exec .admissionEvaluate s = .next (State.oneMoreInFlight p.index { t with
            requesters := s.requesters.set r.requester { q with
              admitted := q.admitted + 1#32
              outstanding := if kind = .pw then q.outstanding else q.outstanding + 1 }
            issueQueue := s.issueQueue ++ [entry (some g)]
            freeTags := free
            tags := s.tags.set g
              { state := .queued, owner := if kind = .pw then .gate else .requester, ownerRequester := r.requester
                upstreamTag := if kind = .pw then 0#8 else r.tag, ownerChannel := 0
                kind := if p.kind = .rd then .rd else .cw, wordCount := r.wordCount, index := p.index
                generation := p.generation, deadline := none, reached := false } })))

/-- A packet that is no request is discarded as UNEXPECTED_PACKET; an outcome that lacks a resource leaves only the
note of what it lacks, and the packet is not weighed again until one of those has become available (R31, R45, R46; the
note is the model's way to keep R46, log entry 2). -/
def Obligations.AdmissionWaitsForResources : Prop :=
  ∀ (s : State) (packet : List Word) (rest : List (List Word)),
    (s.uPort.inbound = packet :: rest → packetType packet ≠ 0 → (∀ w ∈ s.admissionWait, w.again = true) →
      exec .admissionEvaluate s =
        .next ((s.headOffU rest).takeFault { kind := .unexpectedPacket, port := some .u })) ∧
    (∀ w, s.admissionWait = some w → w.again = false → exec .admissionEvaluate s = .next s) ∧
    (s.admits packet rest →
      let r := readRequest packet
      ((∃ status fault, s.verdict r = .refuse status fault ∧ r.kindCode ≠ 1) ∨ s.verdict r = .retry ∨
          (∃ kind offset, s.verdict r = .management kind offset ∧ kind ≠ .pw) →
        32 ≤ s.replyQueue.length →
        exec .admissionEvaluate s = .next { s with
          admissionWait := some { reply := true, issue := false, tag := false, again := false } }) ∧
      (∀ kind p, s.verdict r = .forward kind p →
        let full := 32 ≤ s.issueQueue.length
        let noTag := p.kind ≠ .pw ∧ s.freeTags = []
        full ∨ noTag →
        exec .admissionEvaluate s = .next { s with
          admissionWait := some { reply := false, issue := decide full, tag := decide noTag, again := false } }))

/-- A management access goes to the management unit in the event that admits it: a read is answered OK with the word,
a write is the row of the word it addresses (R40, R127). What a read shows of the U port itself is read after the
packet has left the buffer (the model's reading, log entry 19). -/
def Obligations.ManagementAccessIsHandedOver : Prop :=
  ∀ (s : State) (packet : List Word) (rest : List (List Word)), s.admits packet rest → s.mode ≠ .loading →
    let r := readRequest packet
    let t := s.headOffU rest
    ∀ (kind : RequestKind) (address : Address), wellFormedRequest r = some (kind, address) →
      (s.requesters[r.requester]).state = .opened → (s.requesters[r.requester]).right = true →
      0xFFFFF0000 ≤ address.toNat → r.wordCount = 1 → r.firstEnables = 0xF#4 →
      (kind ≠ .pw → s.replyQueue.length < 32) →
      let offset : BitVec 16 := address.extractLsb' 0 16
      (kind = .rd →
        exec .admissionEvaluate s = .next { t with
          replyQueue := s.replyQueue ++
            [.completion r.requester r.tag .ok [t.readAperture (apertureWord offset.toNat)]] }) ∧
      (kind ≠ .rd →
        exec .admissionEvaluate s =
          exec (managementRow { requester := r.requester, tag := r.tag, confirmed := kind == .cw } offset
            (r.data.headD 0#32)) t)

/-! ### Completions and expiries -/

/-- A completion is matched by its tag: answered upstream for a requester, absorbed for the gate, late for an EXPIRED
tag, an orphan otherwise; a packet that is no completion is UNEXPECTED_PACKET; a reply that finds no slot waits (R57 to
R60, R62, R66, R67). Which requester a late completion of a channel's tag names is the model's reading, log entry 13. -/
def Obligations.CompletionIsMatchedByItsTag : Prop :=
  ∀ (s : State) (packet : List Word) (rest : List (List Word)), s.dPort.inbound = packet :: rest →
    s.completionWait ≠ some false →
    let c := readCompletion packet
    let t := s.headOffD rest
    let run := exec .completionTake s
    (packetType packet ≠ 1 → run = .next (t.takeFault { kind := .unexpectedPacket, port := some .d })) ∧
    (packetType packet = 1 → 48 ≤ c.tag →
      run = .next (t.takeFault { kind := .orphanCompletion, port := some .d })) ∧
    (∀ g : Fin 48, packetType packet = 1 → c.tag = g.val →
      let r := s.tags[g]
      let good := c.statusCode = 0 ∧ c.data.length = (if r.kind = .rd then r.wordCount else 0)
      let failed := tagFault .targetError r.ownerRequester g r
      (r.state ≠ .waiting → r.state ≠ .expired →
        run = .next (t.takeFault { kind := .orphanCompletion, port := some .d, tag := some g })) ∧
      (r.state = .expired →
        run = .next ((t.tagReturned g).takeFault (tagFault .lateCompletion
          (if r.owner = .channel then (s.channels[r.ownerChannel]).owner else r.ownerRequester) g r))) ∧
      (r.state = .waiting → r.owner = .gate →
        let ended := (t.tagReturned g).fall r.index r.generation
        (good → run = .next ended) ∧ (¬good → run = .next (ended.takeFault failed))) ∧
      (r.state = .waiting → r.owner = .requester → s.replyFits →
        let ended (reply : Reply) :=
          ((State.owesOneLess r.ownerRequester ((t.sentUp reply).tagReturned g)).fall r.index r.generation)
        (good → run = .next (ended (.completion r.ownerRequester r.upstreamTag .ok c.data))) ∧
        (¬good →
          run = .next
            ((ended (.completion r.ownerRequester r.upstreamTag .targetError [])).takeFault failed))) ∧
      (r.state = .waiting → r.owner = .requester → ¬s.replyFits →
        run = .next { s with completionWait := some false }))

/-- The answer to a channel's tag frees the tag and is handed to the channel: data to write or to sum, a descriptor to
run, a confirmation, a halt when it was not good; in DRAIN it is discarded, and the last one halts the channel (R61,
R88, R90, R96, R98, R100, R101). That a swap which the fall of the item brings is taken before the channel weighs its
next formation in the same event is the model's reading (log entry 11). -/
def Obligations.CompletionIsHandedToItsChannel : Prop :=
  ∀ (s : State) (packet : List Word) (rest : List (List Word)) (g : Fin 48), s.dPort.inbound = packet :: rest →
    s.completionWait ≠ some false → packetType packet = 1 → (readCompletion packet).tag = g.val →
    (s.tags[g]).state = .waiting → (s.tags[g]).owner = .channel →
    let a := readCompletion packet
    let r := s.tags[g]
    let c := r.ownerChannel
    let ch := s.channels[c]
    let kept := ch.withoutTag g
    let good := a.statusCode = 0 ∧ a.data.length = (if r.kind = .rd then r.wordCount else 0)
    let ended := ((s.headOffD rest).tagReturned g).fall r.index r.generation
    let run := exec .completionTake s
    (ch.state = .drain → kept.tagsHeld ≠ [] → run = .next (ended.setChannel c kept)) ∧
    (ch.state = .drain → kept.tagsHeld = [] → run = .next (ended.halted c kept)) ∧
    (ch.state = .fetch ∨ ch.state = .run →
      (¬good → run = .next ((ended.setChannel c kept).enterDrain c .targetError (some r.index) none)) ∧
      (good → (∀ i ∈ ch.readList, i.tag ≠ some g) → run = .next ((ended.setChannel c kept).advance c)) ∧
      (∀ (before after : List ReadItem) (i : ReadItem), good → ch.readList = before ++ i :: after →
        i.tag = some g → (∀ j ∈ before, j.tag ≠ some g) →
        (i.purpose = .copy →
          run = .next ((ended.setChannel c { kept with
            writeList := kept.writeList ++ [{ offset := i.offset, data := a.data }] }).advance c)) ∧
        (i.purpose = .scan →
          run = .next ((ended.setChannel c { kept with
            scanSum := kept.scanSum + a.data.foldl (· + ·) 0#32
            scanCount := kept.scanCount + BitVec.ofNat 32 a.data.length }).advance c)) ∧
        (∀ d : Descriptor, i.purpose = .fetch → a.data = d.words →
          let bad := d.op = 3 ∨ d.wordCount = 0 ∨ (d.last = false ∧ d.next.toNat % 32 ≠ 0)
          (bad → run = .next ((ended.setChannel c kept).enterDrain c .badDescriptor none none)) ∧
          (¬bad →
            run = .next ((ended.setChannel c { kept with
              descriptor := some d, wordsRemaining := d.wordCount, state := .run }).advance c)))))

/-- A WAITING tag expires at its reply deadline, with its fault: the gate's is only recorded, a channel's drains the
channel, a requester's is answered TIMEOUT when a reply slot is free; an EXPIRED tag is reclaimed at its reclaim
deadline; the lowest CLOSING tag is answered LINK_DOWN when a reply slot is free (R63, R64, R66, R69; log entry 13).
Before the deadline, and for a tag in another state or of another owner, nothing expires or is reclaimed, and with no
CLOSING tag nothing is answered (R63 to R66, R69; that such a command changes nothing is log entry 2). -/
def Obligations.TagsExpireAndAreReclaimedOrAnswered : Prop :=
  ∀ (s : State) (g : Fin 48),
    let r := s.tags[g]
    let ended := (s.tagExpired g).fall r.index r.generation
    let answer (status : Status) : Reply := .completion r.ownerRequester r.upstreamTag status []
    (s.deadlinePassed g →
      (r.state = .waiting → r.owner = .gate →
        exec (.tagExpiry g) s = .next (ended.takeFault (tagFault .timeout r.ownerRequester g r))) ∧
      (r.state = .waiting → r.owner = .channel →
        let c := r.ownerChannel
        let told := ended.takeFault (tagFault .timeout (s.channels[c]).owner g r)
        exec (.tagExpiry g) s =
          .next ((told.setChannel c ((s.channels[c]).withoutTag g)).enterDrain c .timeout (some r.index) none)) ∧
      (r.state = .waiting → r.owner = .requester →
        (s.replyFits →
          exec (.requesterExpiry g) s = .next
            (((State.owesOneLess r.ownerRequester ((s.sentUp (answer .timeout)).tagExpired g)).fall r.index
              r.generation).takeFault (tagFault .timeout r.ownerRequester g r))) ∧
        (¬s.replyFits → exec (.requesterExpiry g) s = .next s)) ∧
      (r.state = .expired → exec (.reclaim g) s = .next (s.tagReturned g))) ∧
    (r.state = .closing → r.owner = .requester → (∀ i : Fin 48, i < g → (s.tags[i]).state ≠ .closing) →
      (s.replyFits →
        exec .closingAnswer s =
          .next (State.owesOneLess r.ownerRequester ((s.sentUp (answer .linkDown)).tagReturned g))) ∧
      (¬s.replyFits → exec .closingAnswer s = .next s)) ∧
    (¬s.deadlinePassed g ∨ r.state ≠ .waiting ∨ r.owner = .requester → exec (.tagExpiry g) s = .next s) ∧
    (¬s.deadlinePassed g ∨ r.state ≠ .waiting ∨ r.owner ≠ .requester → exec (.requesterExpiry g) s = .next s) ∧
    (¬s.deadlinePassed g ∨ r.state ≠ .expired → exec (.reclaim g) s = .next s) ∧
    ((∀ i : Fin 48, (s.tags[i]).state ≠ .closing) → exec .closingAnswer s = .next s)

/-! ### The move channels -/

/-- The checks of a channel request in their order; a failed one stops the formation with its cause, index and address,
a passed one forms the request, counts it and takes a tag where it needs one and the free list has one (R93, R94,
R92). An address past the top of the upstream space is refused as it stands (R88); the halt address it leaves is a free
value, which the spec does not state (the model's choice, log entry 27). -/
def Obligations.ChannelRequestIsCheckedAndFormed : Prop :=
  (∀ (s : State) (q : Fin 16) (address n : Nat) (kind : RequestKind),
    let shown := some (if address < 2 ^ 36 then BitVec.ofNat 36 address else Config.haltAddressBeyond address)
    let check := s.channelCheck q address n kind
    ((s.requesters[q]).state = .fenced → check = .stop .refused none shown) ∧
    ((s.requesters[q]).state = .opened → s.dPort.state ≠ .up → check = .stop .linkDown none none) ∧
    ((s.requesters[q]).state = .opened → s.dPort.state = .up →
      (s.regionCheck address n kind q = .miss → check = .stop .refused none shown) ∧
      (∀ i, s.regionCheck address n kind q = .span i ∨ s.regionCheck address n kind q = .permission i →
        check = .stop .refused (some i) shown) ∧
      (∀ i, s.regionCheck address n kind q = .paused i → check = .stop .paused (some i) shown) ∧
      (∀ p, s.regionCheck address n kind q = .pass p → check = .pass p))) ∧
  (∀ (s : State) (c : Fin 2) (address n : Nat) (purpose : ReadPurpose) (offset lowers : Nat),
    let ch := s.channels[c]
    let check := s.channelCheck ch.owner address n .rd
    let formed := s.formRead c address n purpose offset lowers
    let filled (p : Passage) (tag : Option (Fin 48)) : Channel := { ch with
      formed := some { entry := requestOf ch.owner p n [] tag, copyWrite := false }
      tagsHeld := ch.tagsHeld ++ tag.toList
      readList := ch.readList ++ [{ tag := tag, purpose := purpose, offset := offset, wordCount := n }]
      wordsRemaining := ch.wordsRemaining - lowers }
    1 ≤ n →
    (∀ cause index shown, check = .stop cause index shown → formed = s.enterDrain c cause index shown) ∧
    (∀ p, check = .pass p → s.freeTags = [] →
      formed = (s.oneMoreInFlight p.index).setChannel c (filled p none)) ∧
    (∀ p g free, check = .pass p → s.freeTags = g :: free →
      formed = State.setChannel c (filled p (some g)) { s.oneMoreInFlight p.index with
        freeTags := free, tags := s.tags.set g (tagRecordOf c ch.owner p n .rd) })) ∧
  (∀ (s : State) (c : Fin 2) (address : Nat) (data : List Word) (copyWrite : Bool) (change : Channel → Channel),
    let ch := s.channels[c]
    let check := s.channelCheck ch.owner address data.length .pw
    let formed := s.formWrite c address data copyWrite change
    let filled (p : Passage) (tag : Option (Fin 48)) : Channel := { change ch with
      formed := some { entry := requestOf ch.owner p data.length data tag, copyWrite := copyWrite }
      tagsHeld := (change ch).tagsHeld ++ tag.toList }
    data ≠ [] →
    (∀ cause index shown, check = .stop cause index shown → formed = s.enterDrain c cause index shown) ∧
    (∀ p, check = .pass p → p.kind = .pw ∨ s.freeTags = [] →
      formed = (s.oneMoreInFlight p.index).setChannel c (filled p none)) ∧
    (∀ p g free, check = .pass p → p.kind = .cw → s.freeTags = g :: free →
      formed = State.setChannel c (filled p (some g)) { s.oneMoreInFlight p.index with
        freeTags := free, tags := s.tags.set g (tagRecordOf c ch.owner p data.length .cw) }))

/-- What a channel forms next: nothing while its slot is full or it is in no running state; the fetch read in FETCH;
in RUN the oldest write of the write list when it may take a tag, otherwise the next chunk as its operation says, within
four tags and the free buffer room (R90 to R92, R94 to R98). The descriptor's fields stand where Table 12-9 has them.
That a write may take a tag is judged by the write mode of the entry that contains it (the model's reading, log entry
14), and one fetch at a time is formed (log entry 15). -/
def Obligations.ChannelFormsWhatIsDue : Prop :=
  (∀ d : Descriptor,
    d.words = [d.w0, d.w1, d.w2, d.w3, d.w4, d.w5, d.w6, d.w7] ∧
    d.op = d.w0.toNat % 4 ∧ d.last = d.w0.getLsbD 8 ∧ d.notify = d.w0.getLsbD 9 ∧
    d.wordCount = (if d.w1.getLsbD 16 = true then 65536 else d.w1.toNat % 65536) ∧
    d.source = (d.w3.toNat % 4 * 2 ^ 32 + d.w2.toNat) * 4 ∧
    d.destination = (d.w5.toNat % 4 * 2 ^ 32 + d.w4.toNat) * 4 ∧
    d.fillWord = d.w6 ∧ d.next.toNat = d.w0.toNat / 2 ^ 16 % 16 * 2 ^ 32 + d.w7.toNat) ∧
  ∀ (s : State) (c : Fin 2),
    let ch := s.channels[c]
    let room := 64 - ((ch.readList.map ReadItem.wordCount).sum + (ch.writeList.map (fun i => i.data.length)).sum)
    let ready (address : Nat) : Prop :=
      ∀ r, lookup s.active (address / 4096) = some r → (s.active[r]).mode = .posted ∨ ch.tagsHeld.length < 4
    (ch.formed ≠ none ∨ ch.running = false → s.formNext c = s) ∧
    (ch.formed = none → ch.state = .fetch →
      (ch.readList = [] → ch.tagsHeld.length < 4 → 8 ≤ room →
        s.formNext c = s.formRead c ch.currentAddress.toNat 8 .fetch 0 0) ∧
      (ch.readList ≠ [] ∨ 4 ≤ ch.tagsHeld.length ∨ room < 8 → s.formNext c = s)) ∧
    (∀ d : Descriptor, ch.formed = none → ch.state = .run → ch.descriptor = some d →
      let n := min 16 ch.wordsRemaining
      let offset := d.wordCount - ch.wordsRemaining
      (∀ item rest, ch.writeList = item :: rest → ready (d.destination + 4 * item.offset) →
        s.formNext c = s.formWrite c (d.destination + 4 * item.offset) item.data true
          (fun x => { x with writeList := rest })) ∧
      ((∀ item ∈ ch.writeList.head?, ¬ready (d.destination + 4 * item.offset)) →
        (ch.wordsRemaining = 0 → s.formNext c = s) ∧
        (1 ≤ ch.wordsRemaining → d.op = 0 ∨ d.op = 2 →
          (ch.tagsHeld.length < 4 → n ≤ room →
            s.formNext c = s.formRead c (d.source + 4 * offset) n (if d.op = 0 then .copy else .scan) offset n) ∧
          (4 ≤ ch.tagsHeld.length ∨ room < n → s.formNext c = s)) ∧
        (1 ≤ ch.wordsRemaining → d.op = 1 →
          (ready (d.destination + 4 * offset) →
            s.formNext c = s.formWrite c (d.destination + 4 * offset) (List.replicate n d.fillWord) false
              (fun x => { x with wordsRemaining := x.wordsRemaining - n })) ∧
          (¬ready (d.destination + 4 * offset) → s.formNext c = s))))

/-- A formed request that waits for a tag takes the head of the free list, and its read with it; no count changes
(R94, R52). -/
def Obligations.WaitingRequestTakesATag : Prop :=
  ∀ (s : State) (c : Fin 2) (f : FormedRequest) (g : Fin 48) (free : List (Fin 48)),
    (s.channels[c]).formed = some f → f.entry.kind ≠ .pw → f.entry.tag = none → s.freeTags = g :: free →
    let ch := s.channels[c]
    exec (.channelTagTake c) s = .next { s with
      freeTags := free
      tags := s.tags.set g
        { state := .queued, owner := .channel, ownerRequester := f.entry.requester, upstreamTag := 0#8
          ownerChannel := c, kind := if f.entry.kind = .rd then .rd else .cw, wordCount := f.entry.wordCount
          index := f.entry.index, generation := f.entry.generation, deadline := none, reached := false }
      channels := s.channels.set c { ch with
        formed := some { f with entry := { f.entry with tag := some g } }
        tagsHeld := ch.tagsHeld ++ [g]
        readList := ch.readList.map (fun i => if i.tag = none then { i with tag := some g } else i) } }

/-- A descriptor in RUN is finished when nothing of it is left, and for the last one no tag is held; then the count
rises and the channel fetches the next or goes IDLE (R99). A channel at one of its events weighs the finishing and then
one formation (R91, R99). A channel in FETCH or RUN that takes a halt drains, and halts at once when it holds no tag; one
already in DRAIN keeps its cause, index and address, and halts when it holds no tag; one in IDLE or HALTED takes no halt
(R100, R101). -/
def Obligations.ChannelFinishesAndDrains : Prop :=
  ∀ (s : State) (c : Fin 2),
    let ch := s.channels[c]
    let cause : BitVec 6 := if c = 0 then 0x08#6 else 0x10#6
    s.advance c = (s.finishIfDone c).formNext c ∧
    (ch.state ≠ .run ∨ ch.descriptor = none → s.finishIfDone c = s) ∧
    (∀ d : Descriptor, ch.state = .run → ch.descriptor = some d →
      let done := ch.wordsRemaining = 0 ∧ ch.readList = [] ∧ ch.writeList = [] ∧ ch.formed = none ∧
        (d.last = true → ch.tagsHeld = [])
      (¬done → s.finishIfDone c = s) ∧
      (done → d.last = true →
        s.finishIfDone c = { s with
          channels := s.channels.set c { ch with completed := ch.completed + 1#32, state := .idle }
          pendingCauses := s.pendingCauses ||| cause }) ∧
      (done → d.last = false →
        s.finishIfDone c = { s with
          channels := s.channels.set c { ch with
            completed := ch.completed + 1#32, currentAddress := d.next, descriptor := none, state := .fetch }
          pendingCauses := if d.notify = true then s.pendingCauses ||| cause else s.pendingCauses })) ∧
    (∀ (why : HaltCause) (index : Option (Fin 64)) (address : Option Address),
      let gone : Channel := { ch with
        state := .drain, haltCause := why, haltIndex := index, haltAddress := address, writeList := []
        readList := ch.readList.filter (fun i => i.tag.isSome)
        formed := ch.formed.filter (fun f => f.entry.tag.isSome) }
      ch.running = true →
      ((∀ f, ch.formed = some f → f.entry.tag ≠ none) →
        s.enterDrain c why index address = if ch.tagsHeld = [] then s.halted c gone else s.setChannel c gone) ∧
      (∀ f, ch.formed = some f → f.entry.tag = none →
        let ended := s.fall f.entry.index f.entry.generation
        s.enterDrain c why index address =
          if ch.tagsHeld = [] then ended.halted c gone else ended.setChannel c gone) ∧
      (ch.state = .drain → s.enterDrain c why index address = if ch.tagsHeld = [] then s.halted c ch else s) ∧
      (ch.state = .idle ∨ ch.state = .halted → s.enterDrain c why index address = s))

/-! ### Notices and replies -/

/-- A notice is placed when the notice condition holds and a slot is free, with the causes pending and enabled; the unit
disarms, and the pending set stays (R121, R122). While a part of the condition fails, or no slot is free, nothing is
placed. The head of the reply queue goes out as a new packet of the U port, and the producers that wait for a slot are
weighed again (R46, R62, R153, R161); nothing goes while the queue is empty or the U port is not UP, has no peer
credit, stores 16 units or replays (R153). That a notice may go before the end of the image commit is the model's
choice, log entry 31. -/
def Obligations.NoticeIsPlacedAndReplyHeadSent : Prop :=
  ∀ s : State,
    (∀ q : Fin 16, s.armed = true → s.noticeRequester = some q → s.pendingCauses &&& s.enabledCauses ≠ 0#6 →
      s.uPort.state = .up → s.replyQueue.length < 32 →
      exec .noticePlace s = .next { s with
        replyQueue := s.replyQueue ++ [.notice q (s.pendingCauses &&& s.enabledCauses) s.timeBase]
        armed := false }) ∧
    (s.armed = false ∨ s.noticeRequester = none ∨ s.pendingCauses &&& s.enabledCauses = 0#6 ∨
        s.uPort.state ≠ .up ∨ 32 ≤ s.replyQueue.length →
      exec .noticePlace s = .next s) ∧
    (s.replyQueue = [] ∨ s.uPort.state ≠ .up ∨ s.uPort.peerCredit = 0 ∨ 16 ≤ s.uPort.replayStore.length ∨
        s.uPort.replay ≠ none →
      exec .replySend s = .next s) ∧
    (∀ (r : Reply) (rest : List Reply), s.replyQueue = r :: rest → s.uPort.ready →
      exec .replySend s = .next { s with
        replyQueue := rest
        uPort := s.uPort.afterSending (writeReply r) s.timeBase
        wire := s.wire ++ [.unit .u (unitBytes (wrapUnit s.uPort.nextSeq (writeReply r)))]
        admissionWait := s.admissionWait.map (fun w => { w with again := w.again || w.reply })
        completionWait := s.completionWait.map (fun _ => true) })

/-! ### Commands -/

/-- COMMIT, taken in IDLE, makes the command unit BUSY in VALIDATE (R14, R134); CANCEL ends a running commit with
CANCELLED and COMMAND pending, and records NOTHING in IDLE (R19, R135). -/
def Obligations.CommitBeginsAndCancelEnds : Prop :=
  ∀ (s : State) (a : Access) (operand : BitVec 16), s.mayManage a →
    (s.command.busy = false →
      exec (.commit a operand) s = .next (State.replied a .ok { s with
        command := { busy := true, phase := some .validate, lastCommand := some 0x01#8, lastOperand := operand,
                     lastIssuer := some a.requester, lastResult := none, invalidEntry := none, invalidCause := none,
                     invalidOther := none } }) ∧
      exec (.cancel a operand) s = .next (s.taken a 0x02#8 operand .nothing)) ∧
    (s.command.busy = true →
      exec (.cancel a operand) s = .next
        (State.taken a 0x02#8 operand .cancelled { s with pendingCauses := s.pendingCauses ||| 0x02#6 }))

/-- QUIESCE r, taken in IDLE: RANGE above 63; an OPEN index becomes QUIESCING while it has items in flight and QUIESCED
with the cause pending when it has none; any other index gives STATE (R22). -/
def Obligations.QuiesceChangesTheRunState : Prop :=
  ∀ (s : State) (a : Access) (operand : BitVec 16), s.mayManage a → s.command.busy = false →
    let run := exec (.quiesce a operand) s
    (63 < operand.toNat → run = .next (s.taken a 0x10#8 operand .range)) ∧
    (∀ r : Fin 64, operand.toNat = r.val →
      let x := s.regions[r]
      (x.runState = .opened → 0 < x.inFlight →
        run = .next (State.taken a 0x10#8 operand .done { s with
          regions := s.regions.set r { x with runState := .quiescing } })) ∧
      (x.runState = .opened → x.inFlight = 0 →
        run = .next (State.taken a 0x10#8 operand .done { s with
          regions := s.regions.set r { x with runState := .quiesced }
          pendingCauses := s.pendingCauses ||| 0x04#6 })) ∧
      (x.runState ≠ .opened → run = .next (s.taken a 0x10#8 operand .state)))

/-- RESUME r returns a QUIESCING or QUIESCED index to OPEN with its count kept; DIGEST_CLEAR r empties the digest record
of r; UNFENCE q returns a FENCED record to OPEN; REVERT copies the active bank into the staging bank (R24, R110, R48,
R20). -/
def Obligations.ResumeDigestClearUnfenceAndRevert : Prop :=
  ∀ (s : State) (a : Access) (operand : BitVec 16), s.mayManage a → s.command.busy = false →
    (∀ r : Fin 64, operand.toNat = r.val →
      ((s.regions[r]).runState ≠ .opened →
        exec (.resume a operand) s = .next (State.taken a 0x11#8 operand .done { s with
          regions := s.regions.set r { s.regions[r] with runState := .opened } })) ∧
      ((s.regions[r]).runState = .opened →
        exec (.resume a operand) s = .next (s.taken a 0x11#8 operand .state)) ∧
      exec (.digestClear a operand) s = .next (State.taken a 0x12#8 operand .done { s with
        digests := s.digests.set r { sum := 0#32, wordCount := 0#32, lastWriter := none } })) ∧
    (∀ q : Fin 16, operand.toNat = q.val →
      ((s.requesters[q]).state = .fenced →
        exec (.unfence a operand) s = .next (State.taken a 0x21#8 operand .done { s with
          requesters := s.requesters.set q { s.requesters[q] with state := .opened } })) ∧
      ((s.requesters[q]).state = .opened → exec (.unfence a operand) s = .next (s.taken a 0x21#8 operand .state))) ∧
    exec (.revert a operand) s = .next (State.taken a 0x03#8 operand .done { s with staging := s.active })

/-- LOG_POP removes the head record or answers EMPTY; LOG_CLEAR empties the log and the lost count; NOTICE_ARM arms;
NOTICE_ACK removes the causes it names; COUNTERS_CLEAR sets the counters of the requesters and the ports to 0 and
leaves the rest (R117, R118, R123, R124, R137). -/
def Obligations.LogNoticeAndCounterCommands : Prop :=
  ∀ (s : State) (a : Access) (operand : BitVec 16), s.mayManage a → s.command.busy = false →
    (∀ head rest, s.faultLog = head :: rest →
      exec (.logPop a operand) s = .next (State.taken a 0x30#8 operand .done { s with faultLog := rest })) ∧
    (s.faultLog = [] → exec (.logPop a operand) s = .next (s.taken a 0x30#8 operand .empty)) ∧
    exec (.logClear a operand) s =
      .next (State.taken a 0x31#8 operand .done { s with faultLog := [], lostCount := 0 }) ∧
    exec (.noticeArm a operand) s = .next (State.taken a 0x38#8 operand .done { s with armed := true }) ∧
    exec (.noticeAck a operand) s = .next (State.taken a 0x39#8 operand .done { s with
      pendingCauses := s.pendingCauses &&& ~~~(operand.extractLsb' 0 6) }) ∧
    ∃ t, exec (.countersClear a operand) s = .next t ∧
      t = State.taken a 0x60#8 operand .done { s with
        requesters := t.requesters
        uPort := { s.uPort with counters := PortCounters.zero }
        dPort := { s.dPort with counters := PortCounters.zero }
        discardedReplies := 0#32 } ∧
      ∀ q : Fin 16, t.requesters[q] = { s.requesters[q] with admitted := 0#32, refused := 0#32, retried := 0#32 }

/-- FENCE q: DENIED for the issuer itself, STATE for a FENCED record; otherwise q is FENCED and flushed: its entries leave
the issue queue, the tags they hold become FREE in increasing number, the items they were end, and one FENCE_FLUSH fault
counts them (R47, R54, R76, R35, R12, R13, R23). The law of tag use and an absent phase hold in every reachable state
in IDLE. -/
def Obligations.FenceFlushesARequester : Prop :=
  ∀ (s : State) (a : Access) (operand : BitVec 16) (q : Fin 16), s.mayManage a → s.command.busy = false →
    operand.toNat = q.val →
    (q = a.requester → exec (.fence a operand) s = .next (s.taken a 0x20#8 operand .denied)) ∧
    (q ≠ a.requester → (s.requesters[q]).state = .fenced →
      exec (.fence a operand) s = .next (s.taken a 0x20#8 operand .state)) ∧
    (q ≠ a.requester → (s.requesters[q]).state = .opened → s.command.phase = none → s.tagUseLaw →
      let gone := s.issueQueue.filter (fun e => e.requester == q)
      let endedAt (r : Fin 64) : Nat := gone.countP (fun e => e.index == r)
      let drains (r : Fin 64) : Prop :=
        (s.regions[r]).runState = .quiescing ∧ 1 ≤ endedAt r ∧ (s.regions[r]).inFlight ≤ endedAt r
      let noted := s.takeFault { kind := .fenceFlush, port := some .u, requester := some q,
                                 detail := some (.entries gone.length) }
      ∃ (t : State) (quiesced : BitVec 6), exec (.fence a operand) s = .next (State.taken a 0x20#8 operand .done t) ∧
        t = { s with
          requesters := t.requesters
          issueQueue := s.issueQueue.filter (fun e => e.requester != q)
          tags := t.tags
          freeTags := s.freeTags ++ (List.finRange 48).filter (fun g => decide (g ∈ s.flushedTags q))
          regions := t.regions
          currentTotal := s.currentTotal - gone.countP (fun e => e.generation == s.generation)
          previousTotal := s.previousTotal - gone.countP (fun e => e.generation == s.generation - 1#8)
          faultLog := noted.faultLog
          lostCount := noted.lostCount
          pendingCauses := noted.pendingCauses ||| quiesced
          admissionWait := s.admissionWait.map (fun w => { w with
            again := w.again || (w.tag && !(s.flushedTags q).isEmpty) || (w.issue && !gone.isEmpty) }) } ∧
        (quiesced = 0x04#6 ∧ (∃ r, drains r) ∨ quiesced = 0x00#6 ∧ ∀ r, ¬drains r) ∧
        (∀ g : Fin 48, t.tags[g] = if g ∈ s.flushedTags q then (s.tags[g]).released else s.tags[g]) ∧
        (∀ r : Fin 64,
          (drains r → t.regions[r] = { runState := .quiesced, inFlight := (s.regions[r]).inFlight - endedAt r }) ∧
          (¬drains r → t.regions[r] = { s.regions[r] with inFlight := (s.regions[r]).inFlight - endedAt r })) ∧
        (∀ x : Fin 16, t.requesters[x] =
          if x = q then { s.requesters[q] with
            state := .fenced
            outstanding := (s.requesters[q]).outstanding -
              (s.flushedTags q).countP (fun g => (s.tags[g]).owner == .requester) }
          else s.requesters[x]))

/-- CHANNEL_START from IDLE or HALTED begins the chain at the first descriptor, CHANNEL_STOP in FETCH or RUN drains with
STOPPED, CHANNEL_RESUME of a HALTED channel fetches again or runs the descriptor it holds from its first chunk; in any
other state each gives STATE (R89, R102, R103). -/
def Obligations.ChannelCommands : Prop :=
  ∀ (s : State) (a : Access) (operand : BitVec 16) (c : Fin 2), s.mayManage a → s.command.busy = false →
    operand.toNat = c.val →
    let ch := s.channels[c]
    let cleared : Channel := { ch with
      haltCause := .none, haltIndex := none, haltAddress := none, readList := [], writeList := [], formed := none }
    (ch.state = .idle ∨ ch.state = .halted →
      exec (.channelStart a operand) s = .next (State.taken a 0x40#8 operand .done ((s.setChannel c { cleared with
        scanSum := 0#32, scanCount := 0#32, completed := 0#32, currentAddress := ch.firstDescriptor
        descriptor := none, wordsRemaining := 0, state := .fetch }).formNext c))) ∧
    (ch.running = true ∨ ch.state = .drain →
      exec (.channelStart a operand) s = .next (s.taken a 0x40#8 operand .state)) ∧
    (ch.running = true →
      exec (.channelStop a operand) s =
        .next (State.taken a 0x41#8 operand .done (s.enterDrain c .stopped none none))) ∧
    (ch.running = false → exec (.channelStop a operand) s = .next (s.taken a 0x41#8 operand .state)) ∧
    (ch.state = .halted → ch.descriptor = none →
      exec (.channelResume a operand) s =
        .next (State.taken a 0x42#8 operand .done ((s.setChannel c { cleared with state := .fetch }).formNext c))) ∧
    (∀ d : Descriptor, ch.state = .halted → ch.descriptor = some d →
      exec (.channelResume a operand) s = .next (State.taken a 0x42#8 operand .done ((s.setChannel c { cleared with
        state := .run, wordsRemaining := d.wordCount }).formNext c))) ∧
    (ch.state ≠ .halted → exec (.channelResume a operand) s = .next (s.taken a 0x42#8 operand .state))

/-- LINK_RETRAIN resets the port it names; its own reply is discarded and counted when that is the U port (R136, R160).
RESTART sends RESET on both ports and returns the gate to power-on and a new image load, with no reply (R138, R163). -/
def Obligations.RetrainAndRestart : Prop :=
  ∀ (s : State) (a : Access) (operand : BitVec 16), s.mayManage a → s.command.busy = false →
    (operand = 1#16 →
      exec (.linkRetrain a operand) s =
        .next (State.taken a 0x50#8 operand .done (s.resetPort .d .command))) ∧
    (operand = 0#16 →
      let t := s.resetPort .u .command
      exec (.linkRetrain a operand) s = .next { t with
        command := statusAfter a 0x50#8 operand .done
        discardedReplies := if a.confirmed = true then t.discardedReplies + 1#32 else t.discardedReplies }) ∧
    (s.dPort.state ≠ .down →
      exec (.restart a operand) s = .next { State.reset with
        resetHeld := false
        uPort := State.reset.uPort.fresh 0 0#32
        dPort := State.reset.dPort.fresh 16 0#32
        loader := some []
        serialSelect := true
        wire := s.wire ++ [symbolOn .u 5#8 0#8, symbolOn .d 5#8 0#8, symbolOn .u 1#8 0#8, symbolOn .d 1#8 16#8,
          .serial 0x03#8, .serial 0x00#8, .serial 0x00#8, .serial 0x00#8]
        pending := s.pending })

/-- A taken command whose operand is out of range, or whose code is none of the command codes, gives RANGE and changes
nothing (R133). -/
def Obligations.OperandOutOfRange : Prop :=
  ∀ (s : State) (a : Access) (operand : BitVec 16), s.mayManage a → s.command.busy = false →
    (63 < operand.toNat →
      exec (.quiesce a operand) s = .next (s.taken a 0x10#8 operand .range) ∧
      exec (.resume a operand) s = .next (s.taken a 0x11#8 operand .range) ∧
      exec (.digestClear a operand) s = .next (s.taken a 0x12#8 operand .range)) ∧
    (15 < operand.toNat →
      exec (.fence a operand) s = .next (s.taken a 0x20#8 operand .range) ∧
      exec (.unfence a operand) s = .next (s.taken a 0x21#8 operand .range)) ∧
    (1 < operand.toNat →
      exec (.channelStart a operand) s = .next (s.taken a 0x40#8 operand .range) ∧
      exec (.channelStop a operand) s = .next (s.taken a 0x41#8 operand .range) ∧
      exec (.channelResume a operand) s = .next (s.taken a 0x42#8 operand .range) ∧
      exec (.linkRetrain a operand) s = .next (s.taken a 0x50#8 operand .range)) ∧
    (∀ code : Byte,
      (∀ known ∈ [0x01#8, 0x02#8, 0x03#8, 0x10#8, 0x11#8, 0x12#8, 0x20#8, 0x21#8, 0x30#8, 0x31#8, 0x38#8, 0x39#8,
        0x40#8, 0x41#8, 0x42#8, 0x50#8, 0x60#8, 0x7F#8], code ≠ known) →
      exec (.unknownCommand a code operand) s = .next (s.taken a code operand .range))

/-- While the command unit is BUSY every command but CANCEL, and every write to the staging window, is refused: BUSY to
a CW, MGMT_BUSY for a PW, and nothing else changes (R130). -/
def Obligations.BusyRefusesCommandsAndStaging : Prop :=
  ∀ (s : State) (a : Access) (operand : BitVec 16), s.mayManage a → s.command.busy = true →
    (∀ row ∈ [Instr.commit a operand, .revert a operand, .quiesce a operand, .resume a operand,
        .digestClear a operand, .fence a operand, .unfence a operand, .logPop a operand, .logClear a operand,
        .noticeArm a operand, .noticeAck a operand, .channelStart a operand, .channelStop a operand,
        .channelResume a operand, .linkRetrain a operand, .countersClear a operand, .restart a operand],
      exec row s = .next (s.turnedAway a 0)) ∧
    (∀ code : Byte, commandOf code = none → exec (.unknownCommand a code operand) s = .next (s.turnedAway a 0)) ∧
    (∀ (r : Fin 64) (w : Fin 4) (value : Word),
      exec (.stagingWrite a r w value) s = .next (s.turnedAway a (0x1000 + 0x10 * r.val + 4 * w.val)))

/-! ### Writes -/

/-- What each writable word takes: a staging entry's fields, the reply timeout, the notice configuration, a channel's
configuration while it is IDLE or HALTED; a write to any other word is ignored and a CW to it answered OK (R2, R55, R86,
R120, R128, R172). -/
def Obligations.WritesReplaceTheirFields : Prop :=
  ∀ (s : State) (a : Access) (value : Word), s.mayManage a →
    (∀ r : Fin 64, s.command.busy = false →
      let e := s.staging[r]
      let whole := entryOfWords value value value value
      let put (x : RegionEntry) := State.replied a .ok { s with staging := s.staging.set r x }
      exec (.stagingWrite a r 0 value) s = .next (put { e with
        valid := whole.valid, upstreamBase := whole.upstreamBase, mode := whole.mode, digest := whole.digest }) ∧
      exec (.stagingWrite a r 1 value) s = .next (put { e with pageCount := whole.pageCount }) ∧
      exec (.stagingWrite a r 2 value) s = .next (put { e with downstreamBase := whole.downstreamBase }) ∧
      exec (.stagingWrite a r 3 value) s = .next (put { e with
        readSet := whole.readSet, writeSet := whole.writeSet })) ∧
    exec (.replyTimeoutWrite a value) s =
      .next (State.replied a .ok { s with replyTimeout := timeoutOfWord value }) ∧
    exec (.noticeConfigurationWrite a value) s =
      .next (State.replied a .ok { s with
        noticeRequester := noticeRequesterOfWord value, enabledCauses := value.extractLsb' 8 6 }) ∧
    (∀ c : Fin 2,
      let ch := s.channels[c]
      let put (x : Channel) := State.replied a .ok { s with channels := s.channels.set c x }
      (ch.state = .idle ∨ ch.state = .halted →
        exec (.channelConfigurationWrite a c 0 value) s = .next (put { ch with
          owner := Fin.ofNat 16 (value.toNat % 16), notifyOnHalt := value.getLsbD 8 }) ∧
        exec (.channelConfigurationWrite a c 1 value) s = .next (put { ch with
          firstDescriptor := (ch.firstDescriptor.extractLsb' 32 4 ++ (value &&& 0xFFFFFFE0#32) : BitVec 36) }) ∧
        exec (.channelConfigurationWrite a c 2 value) s = .next (put { ch with
          firstDescriptor := (value.extractLsb' 0 4 ++ ch.firstDescriptor.extractLsb' 0 32 : BitVec 36) })) ∧
      (ch.running = true ∨ ch.state = .drain → ∀ w : Fin 3,
        exec (.channelConfigurationWrite a c w value) s =
          .next (s.turnedAway a (0x3000 + 0x40 * c.val + 4 * w.val)))) ∧
    (∀ word : BitVec 14, apertureWritable (apertureWord (4 * word.toNat)) = false →
      exec (.readOnlyWrite a word value) s = .next (s.replied a .ok))

/-- A write to a requester record replaces its right and its limit, unless it would take the last OPEN requester's right
away: then it is refused with MGMT_LOCKOUT and changes nothing (R33, R34). -/
def Obligations.RequesterWriteKeepsAManager : Prop :=
  ∀ (s : State) (a : Access) (q : Fin 16) (value : Word), s.mayManage a →
    let other := ∃ x : Fin 16, x ≠ q ∧ (s.requesters[x]).state = .opened ∧ (s.requesters[x]).right = true
    let keeps := value.getLsbD 0 = true ∨ (s.requesters[q]).right = false ∨ other
    (keeps →
      exec (.requesterRecordWrite a q value) s = .next (State.replied a .ok { s with
        requesters := s.requesters.set q { s.requesters[q] with
          right := value.getLsbD 0, limit := limitOfWord value } })) ∧
    (¬keeps →
      exec (.requesterRecordWrite a q value) s =
        .next (State.replied a .refused (s.takeFault
          { kind := .mgmtLockout, port := some .u, requester := some a.requester,
            address := some (BitVec.ofNat 36 (0xFFFFF0100 + 0x20 * q.val)) })))

/-! ### Formats -/

/-- The check codes of units and symbols, bit by bit (R142, R143, R171). The bytes of a unit that a port sends are read
back as its number and its packet, for every packet of 1 to 18 words; a unit whose last two bytes are not the check code
of the others, or of no allowed length, is bad, and bit 7 of the sequence byte is covered and ignored (R142, R171). A
request packet that the gate sends is read back with every field it was formed from, and the headers of requests,
completions and notices carry their fields where Table 12-5 has them, other bits 0 (R81, R122, R171, Table 12-1). -/
def Obligations.UnitsAndPacketsReadBack : Prop :=
  (crc16 [] = 0xFFFF#16 ∧
    (∀ (bytes : List Byte) (b : Byte), crc16 (bytes ++ [b]) =
      [7, 6, 5, 4, 3, 2, 1, 0].foldl
        (fun (r : BitVec 16) i => (r <<< 1) ^^^ (if r.getLsbD 15 = b.getLsbD i then 0#16 else 0x1021#16)) (crc16 bytes)) ∧
    (∀ kind value : Byte, crc8 kind value =
      [15, 14, 13, 12, 11, 10, 9, 8, 7, 6, 5, 4, 3, 2, 1, 0].foldl
        (fun (r : BitVec 8) i =>
          (r <<< 1) ^^^ (if r.getLsbD 7 = (kind ++ value : BitVec 16).getLsbD i then 0#8 else 0x07#8)) 0x00#8)) ∧
  (∀ (seqByte : Byte) (packet : List Word) (high low : Byte), 1 ≤ packet.length → packet.length ≤ 18 →
    let covered := seqByte :: packet.flatMap (fun w =>
      [w.extractLsb' 0 8, w.extractLsb' 8 8, w.extractLsb' 16 8, w.extractLsb' 24 8])
    (crc16 covered = high ++ low → readUnit (covered ++ [high, low]) = some (seqByte.extractLsb' 0 7, packet)) ∧
    (crc16 covered ≠ high ++ low → readUnit (covered ++ [high, low]) = none) ∧
    (∀ n : BitVec 7, seqByte = n.setWidth 8 → crc16 covered = high ++ low →
      unitBytes (wrapUnit n packet) = covered ++ [high, low])) ∧
  (∀ (n : BitVec 7) (packet : List Word), 1 ≤ packet.length → packet.length ≤ 18 →
    readUnit (unitBytes (wrapUnit n packet)) = some (n, packet)) ∧
  (∀ bytes : List Byte, ¬(7 ≤ bytes.length ∧ bytes.length ≤ 75 ∧ bytes.length % 4 = 3) → readUnit bytes = none) ∧
  (∀ (kind : RequestKind) (q : Fin 16) (tag : BitVec 8) (address : Address) (n : Nat) (first last : BitVec 4)
    (data : List Word), n ≤ 31 → address.toNat % 4 = 0 →
    let packet := writeRequest kind q tag.toNat address n first last data
    packetType packet = 0 ∧
      readRequest packet =
        { kindCode := kindCode kind, requester := q, tag := tag, wordCount := n, firstEnables := first,
          lastEnables := last, address := some address, data := data }) ∧
  ([RequestKind.rd, .pw, .cw].map kindCode = [0, 1, 2] ∧
    [Status.ok, .refused, .paused, .retry, .targetError, .timeout, .linkDown, .malformed, .busy].map statusCode =
      [0, 1, 2, 3, 4, 5, 6, 7, 8]) ∧
  (∀ (w low : Word) (data : List Word),
    let read (address : Option Address) (data : List Word) : Request :=
      { kindCode := w.toNat / 2 ^ 2 % 8, requester := Fin.ofNat 16 (w.toNat / 2 ^ 5), tag := w.extractLsb' 9 8
        wordCount := w.toNat / 2 ^ 17 % 32, firstEnables := w.extractLsb' 22 4, lastEnables := w.extractLsb' 26 4
        address := address, data := data }
    packetType (w :: data) = w.toNat % 4 ∧
    readRequest (w :: low :: data) =
      read (some (BitVec.ofNat 36 ((w.toNat / 2 ^ 30 * 2 ^ 32 + low.toNat) * 4))) data ∧
    readRequest [w] = read none [] ∧
    readCompletion (w :: data) =
      { tag := w.toNat / 2 ^ 9 % 256, statusCode := w.toNat / 2 ^ 17 % 16, data := data }) ∧
  (∀ (kind : RequestKind) (q : Fin 16) (tag : Nat) (address : Address) (n : Nat) (first last : BitVec 4)
    (data : List Word), ∃ w, writeRequest kind q tag address n first last data =
      w :: BitVec.ofNat 32 (address.toNat / 4) :: data ∧
      showsFields w [(0, 2, 0), (2, 3, kindCode kind), (5, 4, q.val), (9, 8, tag), (17, 5, n), (22, 4, first.toNat),
        (26, 4, last.toNat), (30, 2, address.toNat / 2 ^ 34)]) ∧
  (∀ (q : Fin 16) (tag : BitVec 8) (status : Status) (data : List Word),
    ∃ w, writeReply (.completion q tag status data) = w :: data ∧
      showsFields w [(0, 2, 1), (5, 4, q.val), (9, 8, tag.toNat), (17, 4, statusCode status)]) ∧
  (∀ (q : Fin 16) (causes : BitVec 6) (timestamp : Word),
    ∃ w, writeReply (.notice q causes timestamp) = [w, timestamp] ∧
      showsFields w [(0, 2, 2), (5, 4, q.val), (9, 6, causes.toNat)])

/-- What a management read returns. The map of the aperture and its writable words (Table 12-6); a staging word written
is read back with the bits that carry fields, a page count above 16,777,216 as that (R172); the codes of named values
(Tables 12-1, 12-3, 12-8); and the fields of the word at every offset of every window (Tables 12-7, 12-8, R28, R72, R85,
R86, R87, R112, R119, R128, R129, R162, R172). That bits with no field of a read-only word read 0 is the model's reading
(log entry 17), and so is what the last writer number reads without a writer and the other index of a detail that has
none (log entry 32). -/
def Obligations.ApertureWordsShowTheirFields : Prop :=
  (∀ offset : Nat, offset % 4 = 0 → ¬inRows apertureRows offset → apertureWord offset = .unused) ∧
  (∀ offset : Nat, offset % 4 = 0 →
    (apertureWritable (apertureWord offset) = true ↔ inRows writableRows offset)) ∧
  (∀ (e : RegionEntry) (w : Fin 4) (value : Word),
    regionEntryWord (e.writeWord w value) w =
      (match w with
       | 0 => value &&& 0xE0FFFFFF#32
       | 1 => if 0x1000000 < value.toNat % 2 ^ 25 then 0x1000000#32 else value &&& 0x01FFFFFF#32
       | 2 => value &&& 0x00FFFFFF#32
       | 3 => value)) ∧
  ([RunState.opened, .quiescing, .quiesced].map runStateCode = [0, 1, 2] ∧
    [TagState.free, .queued, .waiting, .expired, .closing].map tagStateCode = [0, 1, 2, 3, 4] ∧
    [TagOwner.requester, .gate, .channel].map tagOwnerCode = [0, 1, 2] ∧
    [ChannelState.idle, .fetch, .run, .drain, .halted].map channelStateCode = [0, 1, 2, 3, 4] ∧
    [HaltCause.none, .stopped, .refused, .paused, .targetError, .timeout, .linkDown, .badDescriptor].map haltCauseCode =
      [0, 1, 2, 3, 4, 5, 6, 7] ∧
    [GateMode.loading, .safe, .normal].map modeCode = [0, 1, 2] ∧
    [none, some Phase.validate, some .drain].map phaseCode = [0, 1, 2] ∧
    [none, some Result.done, some .invalid, some .cancelled, some .state, some .denied, some .range, some .empty,
      some .nothing].map resultCode = [0, 1, 2, 3, 4, 5, 6, 7, 8] ∧
    [none, some ValidationCause.countZero, some .upWrap, some .downWrap, some .aperture, some .overlap].map
      invalidCauseCode = [0, 1, 2, 3, 4, 5] ∧
    [Candidate.queue, .channel0, .channel1].map candidateCode = [0, 1, 2] ∧
    [none, some Port.u, some .d].map faultPortCode = [0, 1, 2] ∧
    [FaultKind.malformed, .fenced, .mgmtDenied, .mgmtBusy, .mgmtLockout, .noRegion, .span, .permission, .paused,
      .linkDown, .targetError, .timeout, .lateCompletion, .orphanCompletion, .unexpectedPacket, .fenceFlush,
      .linkReset, .channelHalt, .image].map faultKindCode = (List.range 19).map (fun k => k + 1) ∧
    [Detail.reset .peerReset, .reset .retryExhausted, .reset .protocol, .reset .command].map detailCode =
      [1, 2, 3, 4] ∧
    [Detail.image .absent none, .image .format none, .image .sum none, .image (.validation .countZero) none,
      .image (.validation .upWrap) none, .image (.validation .downWrap) none, .image (.validation .aperture) none,
      .image (.validation .overlap) (some 5)].map detailCode = [1, 2, 3, 4, 5, 6, 7, 8] ∧
    (∀ n : Nat, detailCode (.entries n) = n) ∧ (∀ cause, detailCode (.halt cause) = haltCauseCode cause) ∧
    (∀ (cause : ImageCause) (i : Fin 64), detailOther (.image cause (some i)) = i.val)) ∧
  (∀ (s : State),
    let shows (offset : Nat) (fields : List (Nat × Nat × Nat)) : Prop := showsFields (s.readAt offset) fields
    let command := s.command
    (shows 0x0000 [] ∧
      shows 0x0004 [(0, 1, command.busy.toNat), (1, 2, phaseCode command.phase), (8, 4, resultCode command.lastResult),
        (16, 8, (command.lastCommand.getD 0#8).toNat), (24, 1, command.lastCommand.isSome.toNat),
        (27, 1, command.lastIssuer.isSome.toNat), (28, 4, shownFin command.lastIssuer)] ∧
      shows 0x0008 [(0, 16, command.lastOperand.toNat)] ∧
      shows 0x000C [(0, 6, shownFin command.invalidEntry), (7, 1, command.invalidEntry.isSome.toNat),
        (8, 3, invalidCauseCode command.invalidCause), (16, 6, shownFin command.invalidOther),
        (23, 1, command.invalidOther.isSome.toNat)]) ∧
    (shows 0x0020 [(0, 2, modeCode s.mode)] ∧
      shows 0x0030 [(0, 16, s.replyTimeout.toNat)] ∧
      shows 0x0040 [(0, 4, shownFin s.noticeRequester), (7, 1, s.noticeRequester.isSome.toNat),
        (8, 6, s.enabledCauses.toNat)] ∧
      shows 0x0044 [(0, 6, s.pendingCauses.toNat), (8, 1, s.armed.toNat)]) ∧
    (shows 0x0080 [(0, 6, s.faultLog.length)] ∧ shows 0x0084 [(0, 16, s.lostCount)] ∧
      (s.faultLog = [] → ∀ w : Fin 6, shows (0x0088 + 4 * w.val) []) ∧
      (∀ (head : FaultRecord) (rest : List FaultRecord), s.faultLog = head :: rest →
        let f := head.report
        shows 0x0088 [(0, 5, faultKindCode f.kind), (6, 2, faultPortCode f.port), (8, 4, shownFin f.requester),
          (12, 1, f.requester.isSome.toNat), (16, 6, shownFin f.region), (23, 1, f.region.isSome.toNat),
          (24, 6, shownFin f.tag), (30, 1, f.tag.isSome.toNat)] ∧
        shows 0x008C [(0, 32, (f.address.getD 0#36).toNat)] ∧
        shows 0x0090 [(0, 4, (f.address.getD 0#36).toNat / 2 ^ 32), (31, 1, f.address.isSome.toNat)] ∧
        (f.detail = none → shows 0x0094 []) ∧
        (∀ detail, f.detail = some detail →
          shows 0x0094 [(0, 8, detailCode detail), (8, 6, detailOther detail), (31, 1, 1)]) ∧
        shows 0x0098 [(0, 32, head.firstTime.toNat)] ∧ shows 0x009C [(0, 16, head.repeatCount)])) ∧
    (∀ q : Fin 16,
      let r := s.requesters[q]
      let base := 0x0100 + 0x20 * q.val
      shows base [(0, 1, r.right.toNat), (8, 5, r.limit)] ∧
      shows (base + 0x04) [(0, 1, if r.state = .fenced then 1 else 0), (8, 5, r.outstanding)] ∧
      shows (base + 0x08) [(0, 32, r.admitted.toNat)] ∧ shows (base + 0x0C) [(0, 32, r.refused.toNat)] ∧
      shows (base + 0x10) [(0, 32, r.retried.toNat)]) ∧
    (shows 0x0400 [(0, 8, s.generation.toNat)] ∧ shows 0x0404 [(0, 16, s.currentTotal)] ∧
      shows 0x0408 [(0, 16, s.previousTotal)]) ∧
    (∀ r : Fin 64,
      let d := s.digests[r]
      let entryShows (base : Nat) (e : RegionEntry) : Prop :=
        shows base [(0, 24, e.upstreamBase.toNat), (29, 1, e.digest.toNat), (30, 1, if e.mode = .confirm then 1 else 0),
          (31, 1, e.valid.toNat)] ∧
        shows (base + 0x04) [(0, 25, e.pageCount.toNat)] ∧ shows (base + 0x08) [(0, 24, e.downstreamBase.toNat)] ∧
        shows (base + 0x0C) [(0, 16, e.readSet.toNat), (16, 16, e.writeSet.toNat)]
      shows (0x0500 + 4 * r.val) [(0, 2, runStateCode (s.regions[r]).runState), (8, 16, (s.regions[r]).inFlight)] ∧
      shows (0x0800 + 0x10 * r.val) [(0, 32, d.sum.toNat)] ∧
      shows (0x0804 + 0x10 * r.val) [(0, 32, d.wordCount.toNat)] ∧
      (d.lastWriter = none → shows (0x0808 + 0x10 * r.val) []) ∧
      (∀ q, d.lastWriter = some (.requester q) → shows (0x0808 + 0x10 * r.val) [(0, 4, q.val), (8, 2, 1)]) ∧
      (∀ c, d.lastWriter = some (.channel c) → shows (0x0808 + 0x10 * r.val) [(0, 4, c.val), (8, 2, 2)]) ∧
      entryShows (0x1000 + 0x10 * r.val) s.staging[r] ∧ entryShows (0x1800 + 0x10 * r.val) s.active[r]) ∧
    shows 0x2000 [(0, 6, s.freeTags.length)] ∧
    (∀ t : Fin 48,
      let r := s.tags[t]
      let base := 0x2100 + 0x10 * t.val
      shows base [(0, 3, tagStateCode r.state), (4, 2, tagOwnerCode r.owner), (8, 4, r.ownerRequester.val),
        (12, 8, r.upstreamTag.toNat), (20, 1, r.ownerChannel.val), (21, 1, if r.kind = .cw then 1 else 0),
        (24, 5, r.wordCount)] ∧
      shows (base + 0x04) [(0, 6, r.index.val), (8, 8, r.generation.toNat), (31, 1, r.deadline.isSome.toNat)] ∧
      shows (base + 0x08) [(0, 32, (r.deadline.getD 0#32).toNat)]) ∧
    (∀ c : Fin 2,
      let ch := s.channels[c]
      let base := 0x3100 + 0x80 * c.val
      shows (0x3000 + 0x40 * c.val) [(0, 4, ch.owner.val), (8, 1, ch.notifyOnHalt.toNat)] ∧
      shows (0x3004 + 0x40 * c.val) [(0, 32, ch.firstDescriptor.toNat)] ∧
      shows (0x3008 + 0x40 * c.val) [(0, 4, ch.firstDescriptor.toNat / 2 ^ 32)] ∧
      shows base [(0, 3, channelStateCode ch.state), (8, 3, haltCauseCode ch.haltCause), (16, 6, shownFin ch.haltIndex),
        (23, 1, ch.haltIndex.isSome.toNat), (24, 1, ch.descriptor.isSome.toNat), (25, 1, ch.haltAddress.isSome.toNat),
        (28, 3, ch.tagsHeld.length)] ∧
      shows (base + 0x04) [(0, 32, ch.currentAddress.toNat)] ∧
      shows (base + 0x08) [(0, 4, ch.currentAddress.toNat / 2 ^ 32)] ∧
      shows (base + 0x0C) [(0, 17, ch.wordsRemaining)] ∧ shows (base + 0x10) [(0, 32, ch.completed.toNat)] ∧
      shows (base + 0x14) [(0, 32, ch.scanSum.toNat)] ∧ shows (base + 0x18) [(0, 32, ch.scanCount.toNat)] ∧
      shows (base + 0x1C) [(0, 32, (ch.haltAddress.getD 0#36).toNat)] ∧
      shows (base + 0x20) [(0, 4, (ch.haltAddress.getD 0#36).toNat / 2 ^ 32)] ∧
      shows (base + 0x24) ((List.range 4).map (fun k => (8 * k, 6, shownFin ch.tagsHeld[k]?))) ∧
      (ch.descriptor = none → ∀ w : Fin 8, shows (base + 0x40 + 4 * w.val) []) ∧
      (∀ d : Descriptor, ch.descriptor = some d →
        s.readAt (base + 0x40) = d.w0 ∧ s.readAt (base + 0x44) = d.w1 ∧ s.readAt (base + 0x48) = d.w2 ∧
        s.readAt (base + 0x4C) = d.w3 ∧ s.readAt (base + 0x50) = d.w4 ∧ s.readAt (base + 0x54) = d.w5 ∧
        s.readAt (base + 0x58) = d.w6 ∧ s.readAt (base + 0x5C) = d.w7)) ∧
    (∀ p : Port,
      let l := s.port p
      let base := if p = .u then 0x4000 else 0x4100
      shows base [(0, 1, if l.state = .up then 1 else 0), (1, 1, l.withholds.toNat), (8, 7, l.advertised),
        (16, 3, l.retryRun), (19, 1, l.replay.isSome.toNat)] ∧
      shows (base + 0x04) [(0, 7, l.peerCredit), (8, 7, l.peerCeiling), (16, 5, l.allowance), (24, 5, l.owedCredit)] ∧
      shows (base + 0x08) [(0, 7, l.nextSeq.toNat), (8, 7, l.expectedSeq.toNat), (16, 5, l.replayStore.length),
        (24, 5, l.inbound.length)] ∧
      s.readAt (base + 0x10) = l.counters.unitsSent ∧ s.readAt (base + 0x14) = l.counters.unitsResent ∧
      s.readAt (base + 0x18) = l.counters.replays ∧ s.readAt (base + 0x1C) = l.counters.unitsAccepted ∧
      s.readAt (base + 0x20) = l.counters.badUnits ∧ s.readAt (base + 0x24) = l.counters.gapUnits ∧
      s.readAt (base + 0x28) = l.counters.duplicateUnits ∧ s.readAt (base + 0x2C) = l.counters.earlyUnits ∧
      s.readAt (base + 0x30) = l.counters.badSymbols ∧ s.readAt (base + 0x34) = l.counters.linkLosses) ∧
    (shows 0x400C [(0, 6, s.replyQueue.length)] ∧ s.readAt 0x4038 = s.discardedReplies ∧
      shows 0x410C [(0, 6, s.issueQueue.length), (8, 2, candidateCode s.lastGranted),
        (12, 1, (s.offer .channel0).isSome.toNat), (13, 1, (s.offer .channel1).isSome.toNat)] ∧
      s.readAt 0x4138 = 0#32)) ∧
  (∀ (s : State) (offset : Nat), offset % 4 = 0 → ¬inRows apertureRows offset → s.readAt offset = 0#32)

end
end

