-- ==== Sys2Proof/Laws/State.lean ====
section
/-! SUPPORT. What each record update of Machine/Ops.lean and Machine/Flags.lean leaves in each field, true by rfl. -/
namespace Sys2Proof.Machine

@[simp] theorem State.setTag_resetHeld (t : Fin 48) (r : TagRecord) (s : State) : (State.setTag t r s).resetHeld = s.resetHeld := rfl
@[simp] theorem State.setTag_timeBase (t : Fin 48) (r : TagRecord) (s : State) : (State.setTag t r s).timeBase = s.timeBase := rfl
@[simp] theorem State.setTag_mode (t : Fin 48) (r : TagRecord) (s : State) : (State.setTag t r s).mode = s.mode := rfl
@[simp] theorem State.setTag_loader (t : Fin 48) (r : TagRecord) (s : State) : (State.setTag t r s).loader = s.loader := rfl
@[simp] theorem State.setTag_serialSelect (t : Fin 48) (r : TagRecord) (s : State) : (State.setTag t r s).serialSelect = s.serialSelect := rfl
@[simp] theorem State.setTag_active (t : Fin 48) (r : TagRecord) (s : State) : (State.setTag t r s).active = s.active := rfl
@[simp] theorem State.setTag_staging (t : Fin 48) (r : TagRecord) (s : State) : (State.setTag t r s).staging = s.staging := rfl
@[simp] theorem State.setTag_generation (t : Fin 48) (r : TagRecord) (s : State) : (State.setTag t r s).generation = s.generation := rfl
@[simp] theorem State.setTag_currentTotal (t : Fin 48) (r : TagRecord) (s : State) : (State.setTag t r s).currentTotal = s.currentTotal := rfl
@[simp] theorem State.setTag_previousTotal (t : Fin 48) (r : TagRecord) (s : State) : (State.setTag t r s).previousTotal = s.previousTotal := rfl
@[simp] theorem State.setTag_regions (t : Fin 48) (r : TagRecord) (s : State) : (State.setTag t r s).regions = s.regions := rfl
@[simp] theorem State.setTag_digests (t : Fin 48) (r : TagRecord) (s : State) : (State.setTag t r s).digests = s.digests := rfl
@[simp] theorem State.setTag_requesters (t : Fin 48) (r : TagRecord) (s : State) : (State.setTag t r s).requesters = s.requesters := rfl
@[simp] theorem State.setTag_admissionWait (t : Fin 48) (r : TagRecord) (s : State) : (State.setTag t r s).admissionWait = s.admissionWait := rfl
@[simp] theorem State.setTag_tags (t : Fin 48) (r : TagRecord) (s : State) : (State.setTag t r s).tags = s.tags.set t r := rfl
@[simp] theorem State.setTag_freeTags (t : Fin 48) (r : TagRecord) (s : State) : (State.setTag t r s).freeTags = s.freeTags := rfl
@[simp] theorem State.setTag_replyTimeout (t : Fin 48) (r : TagRecord) (s : State) : (State.setTag t r s).replyTimeout = s.replyTimeout := rfl
@[simp] theorem State.setTag_completionWait (t : Fin 48) (r : TagRecord) (s : State) : (State.setTag t r s).completionWait = s.completionWait := rfl
@[simp] theorem State.setTag_issueQueue (t : Fin 48) (r : TagRecord) (s : State) : (State.setTag t r s).issueQueue = s.issueQueue := rfl
@[simp] theorem State.setTag_lastGranted (t : Fin 48) (r : TagRecord) (s : State) : (State.setTag t r s).lastGranted = s.lastGranted := rfl
@[simp] theorem State.setTag_channels (t : Fin 48) (r : TagRecord) (s : State) : (State.setTag t r s).channels = s.channels := rfl
@[simp] theorem State.setTag_faultLog (t : Fin 48) (r : TagRecord) (s : State) : (State.setTag t r s).faultLog = s.faultLog := rfl
@[simp] theorem State.setTag_lostCount (t : Fin 48) (r : TagRecord) (s : State) : (State.setTag t r s).lostCount = s.lostCount := rfl
@[simp] theorem State.setTag_pendingCauses (t : Fin 48) (r : TagRecord) (s : State) : (State.setTag t r s).pendingCauses = s.pendingCauses := rfl
@[simp] theorem State.setTag_enabledCauses (t : Fin 48) (r : TagRecord) (s : State) : (State.setTag t r s).enabledCauses = s.enabledCauses := rfl
@[simp] theorem State.setTag_armed (t : Fin 48) (r : TagRecord) (s : State) : (State.setTag t r s).armed = s.armed := rfl
@[simp] theorem State.setTag_noticeRequester (t : Fin 48) (r : TagRecord) (s : State) : (State.setTag t r s).noticeRequester = s.noticeRequester := rfl
@[simp] theorem State.setTag_command (t : Fin 48) (r : TagRecord) (s : State) : (State.setTag t r s).command = s.command := rfl
@[simp] theorem State.setTag_uPort (t : Fin 48) (r : TagRecord) (s : State) : (State.setTag t r s).uPort = s.uPort := rfl
@[simp] theorem State.setTag_dPort (t : Fin 48) (r : TagRecord) (s : State) : (State.setTag t r s).dPort = s.dPort := rfl
@[simp] theorem State.setTag_discardedReplies (t : Fin 48) (r : TagRecord) (s : State) : (State.setTag t r s).discardedReplies = s.discardedReplies := rfl
@[simp] theorem State.setTag_replyQueue (t : Fin 48) (r : TagRecord) (s : State) : (State.setTag t r s).replyQueue = s.replyQueue := rfl
@[simp] theorem State.setTag_wire (t : Fin 48) (r : TagRecord) (s : State) : (State.setTag t r s).wire = s.wire := rfl
@[simp] theorem State.setTag_pending (t : Fin 48) (r : TagRecord) (s : State) : (State.setTag t r s).pending = s.pending := rfl

@[simp] theorem State.setRequester_resetHeld (q : Fin 16) (r : RequesterRecord) (s : State) : (State.setRequester q r s).resetHeld = s.resetHeld := rfl
@[simp] theorem State.setRequester_timeBase (q : Fin 16) (r : RequesterRecord) (s : State) : (State.setRequester q r s).timeBase = s.timeBase := rfl
@[simp] theorem State.setRequester_mode (q : Fin 16) (r : RequesterRecord) (s : State) : (State.setRequester q r s).mode = s.mode := rfl
@[simp] theorem State.setRequester_loader (q : Fin 16) (r : RequesterRecord) (s : State) : (State.setRequester q r s).loader = s.loader := rfl
@[simp] theorem State.setRequester_serialSelect (q : Fin 16) (r : RequesterRecord) (s : State) : (State.setRequester q r s).serialSelect = s.serialSelect := rfl
@[simp] theorem State.setRequester_active (q : Fin 16) (r : RequesterRecord) (s : State) : (State.setRequester q r s).active = s.active := rfl
@[simp] theorem State.setRequester_staging (q : Fin 16) (r : RequesterRecord) (s : State) : (State.setRequester q r s).staging = s.staging := rfl
@[simp] theorem State.setRequester_generation (q : Fin 16) (r : RequesterRecord) (s : State) : (State.setRequester q r s).generation = s.generation := rfl
@[simp] theorem State.setRequester_currentTotal (q : Fin 16) (r : RequesterRecord) (s : State) : (State.setRequester q r s).currentTotal = s.currentTotal := rfl
@[simp] theorem State.setRequester_previousTotal (q : Fin 16) (r : RequesterRecord) (s : State) : (State.setRequester q r s).previousTotal = s.previousTotal := rfl
@[simp] theorem State.setRequester_regions (q : Fin 16) (r : RequesterRecord) (s : State) : (State.setRequester q r s).regions = s.regions := rfl
@[simp] theorem State.setRequester_digests (q : Fin 16) (r : RequesterRecord) (s : State) : (State.setRequester q r s).digests = s.digests := rfl
@[simp] theorem State.setRequester_requesters (q : Fin 16) (r : RequesterRecord) (s : State) : (State.setRequester q r s).requesters = s.requesters.set q r := rfl
@[simp] theorem State.setRequester_admissionWait (q : Fin 16) (r : RequesterRecord) (s : State) : (State.setRequester q r s).admissionWait = s.admissionWait := rfl
@[simp] theorem State.setRequester_tags (q : Fin 16) (r : RequesterRecord) (s : State) : (State.setRequester q r s).tags = s.tags := rfl
@[simp] theorem State.setRequester_freeTags (q : Fin 16) (r : RequesterRecord) (s : State) : (State.setRequester q r s).freeTags = s.freeTags := rfl
@[simp] theorem State.setRequester_replyTimeout (q : Fin 16) (r : RequesterRecord) (s : State) : (State.setRequester q r s).replyTimeout = s.replyTimeout := rfl
@[simp] theorem State.setRequester_completionWait (q : Fin 16) (r : RequesterRecord) (s : State) : (State.setRequester q r s).completionWait = s.completionWait := rfl
@[simp] theorem State.setRequester_issueQueue (q : Fin 16) (r : RequesterRecord) (s : State) : (State.setRequester q r s).issueQueue = s.issueQueue := rfl
@[simp] theorem State.setRequester_lastGranted (q : Fin 16) (r : RequesterRecord) (s : State) : (State.setRequester q r s).lastGranted = s.lastGranted := rfl
@[simp] theorem State.setRequester_channels (q : Fin 16) (r : RequesterRecord) (s : State) : (State.setRequester q r s).channels = s.channels := rfl
@[simp] theorem State.setRequester_faultLog (q : Fin 16) (r : RequesterRecord) (s : State) : (State.setRequester q r s).faultLog = s.faultLog := rfl
@[simp] theorem State.setRequester_lostCount (q : Fin 16) (r : RequesterRecord) (s : State) : (State.setRequester q r s).lostCount = s.lostCount := rfl
@[simp] theorem State.setRequester_pendingCauses (q : Fin 16) (r : RequesterRecord) (s : State) : (State.setRequester q r s).pendingCauses = s.pendingCauses := rfl
@[simp] theorem State.setRequester_enabledCauses (q : Fin 16) (r : RequesterRecord) (s : State) : (State.setRequester q r s).enabledCauses = s.enabledCauses := rfl
@[simp] theorem State.setRequester_armed (q : Fin 16) (r : RequesterRecord) (s : State) : (State.setRequester q r s).armed = s.armed := rfl
@[simp] theorem State.setRequester_noticeRequester (q : Fin 16) (r : RequesterRecord) (s : State) : (State.setRequester q r s).noticeRequester = s.noticeRequester := rfl
@[simp] theorem State.setRequester_command (q : Fin 16) (r : RequesterRecord) (s : State) : (State.setRequester q r s).command = s.command := rfl
@[simp] theorem State.setRequester_uPort (q : Fin 16) (r : RequesterRecord) (s : State) : (State.setRequester q r s).uPort = s.uPort := rfl
@[simp] theorem State.setRequester_dPort (q : Fin 16) (r : RequesterRecord) (s : State) : (State.setRequester q r s).dPort = s.dPort := rfl
@[simp] theorem State.setRequester_discardedReplies (q : Fin 16) (r : RequesterRecord) (s : State) : (State.setRequester q r s).discardedReplies = s.discardedReplies := rfl
@[simp] theorem State.setRequester_replyQueue (q : Fin 16) (r : RequesterRecord) (s : State) : (State.setRequester q r s).replyQueue = s.replyQueue := rfl
@[simp] theorem State.setRequester_wire (q : Fin 16) (r : RequesterRecord) (s : State) : (State.setRequester q r s).wire = s.wire := rfl
@[simp] theorem State.setRequester_pending (q : Fin 16) (r : RequesterRecord) (s : State) : (State.setRequester q r s).pending = s.pending := rfl

@[simp] theorem State.setRegion_resetHeld (i : Fin 64) (r : RegionStatus) (s : State) : (State.setRegion i r s).resetHeld = s.resetHeld := rfl
@[simp] theorem State.setRegion_timeBase (i : Fin 64) (r : RegionStatus) (s : State) : (State.setRegion i r s).timeBase = s.timeBase := rfl
@[simp] theorem State.setRegion_mode (i : Fin 64) (r : RegionStatus) (s : State) : (State.setRegion i r s).mode = s.mode := rfl
@[simp] theorem State.setRegion_loader (i : Fin 64) (r : RegionStatus) (s : State) : (State.setRegion i r s).loader = s.loader := rfl
@[simp] theorem State.setRegion_serialSelect (i : Fin 64) (r : RegionStatus) (s : State) : (State.setRegion i r s).serialSelect = s.serialSelect := rfl
@[simp] theorem State.setRegion_active (i : Fin 64) (r : RegionStatus) (s : State) : (State.setRegion i r s).active = s.active := rfl
@[simp] theorem State.setRegion_staging (i : Fin 64) (r : RegionStatus) (s : State) : (State.setRegion i r s).staging = s.staging := rfl
@[simp] theorem State.setRegion_generation (i : Fin 64) (r : RegionStatus) (s : State) : (State.setRegion i r s).generation = s.generation := rfl
@[simp] theorem State.setRegion_currentTotal (i : Fin 64) (r : RegionStatus) (s : State) : (State.setRegion i r s).currentTotal = s.currentTotal := rfl
@[simp] theorem State.setRegion_previousTotal (i : Fin 64) (r : RegionStatus) (s : State) : (State.setRegion i r s).previousTotal = s.previousTotal := rfl
@[simp] theorem State.setRegion_regions (i : Fin 64) (r : RegionStatus) (s : State) : (State.setRegion i r s).regions = s.regions.set i r := rfl
@[simp] theorem State.setRegion_digests (i : Fin 64) (r : RegionStatus) (s : State) : (State.setRegion i r s).digests = s.digests := rfl
@[simp] theorem State.setRegion_requesters (i : Fin 64) (r : RegionStatus) (s : State) : (State.setRegion i r s).requesters = s.requesters := rfl
@[simp] theorem State.setRegion_admissionWait (i : Fin 64) (r : RegionStatus) (s : State) : (State.setRegion i r s).admissionWait = s.admissionWait := rfl
@[simp] theorem State.setRegion_tags (i : Fin 64) (r : RegionStatus) (s : State) : (State.setRegion i r s).tags = s.tags := rfl
@[simp] theorem State.setRegion_freeTags (i : Fin 64) (r : RegionStatus) (s : State) : (State.setRegion i r s).freeTags = s.freeTags := rfl
@[simp] theorem State.setRegion_replyTimeout (i : Fin 64) (r : RegionStatus) (s : State) : (State.setRegion i r s).replyTimeout = s.replyTimeout := rfl
@[simp] theorem State.setRegion_completionWait (i : Fin 64) (r : RegionStatus) (s : State) : (State.setRegion i r s).completionWait = s.completionWait := rfl
@[simp] theorem State.setRegion_issueQueue (i : Fin 64) (r : RegionStatus) (s : State) : (State.setRegion i r s).issueQueue = s.issueQueue := rfl
@[simp] theorem State.setRegion_lastGranted (i : Fin 64) (r : RegionStatus) (s : State) : (State.setRegion i r s).lastGranted = s.lastGranted := rfl
@[simp] theorem State.setRegion_channels (i : Fin 64) (r : RegionStatus) (s : State) : (State.setRegion i r s).channels = s.channels := rfl
@[simp] theorem State.setRegion_faultLog (i : Fin 64) (r : RegionStatus) (s : State) : (State.setRegion i r s).faultLog = s.faultLog := rfl
@[simp] theorem State.setRegion_lostCount (i : Fin 64) (r : RegionStatus) (s : State) : (State.setRegion i r s).lostCount = s.lostCount := rfl
@[simp] theorem State.setRegion_pendingCauses (i : Fin 64) (r : RegionStatus) (s : State) : (State.setRegion i r s).pendingCauses = s.pendingCauses := rfl
@[simp] theorem State.setRegion_enabledCauses (i : Fin 64) (r : RegionStatus) (s : State) : (State.setRegion i r s).enabledCauses = s.enabledCauses := rfl
@[simp] theorem State.setRegion_armed (i : Fin 64) (r : RegionStatus) (s : State) : (State.setRegion i r s).armed = s.armed := rfl
@[simp] theorem State.setRegion_noticeRequester (i : Fin 64) (r : RegionStatus) (s : State) : (State.setRegion i r s).noticeRequester = s.noticeRequester := rfl
@[simp] theorem State.setRegion_command (i : Fin 64) (r : RegionStatus) (s : State) : (State.setRegion i r s).command = s.command := rfl
@[simp] theorem State.setRegion_uPort (i : Fin 64) (r : RegionStatus) (s : State) : (State.setRegion i r s).uPort = s.uPort := rfl
@[simp] theorem State.setRegion_dPort (i : Fin 64) (r : RegionStatus) (s : State) : (State.setRegion i r s).dPort = s.dPort := rfl
@[simp] theorem State.setRegion_discardedReplies (i : Fin 64) (r : RegionStatus) (s : State) : (State.setRegion i r s).discardedReplies = s.discardedReplies := rfl
@[simp] theorem State.setRegion_replyQueue (i : Fin 64) (r : RegionStatus) (s : State) : (State.setRegion i r s).replyQueue = s.replyQueue := rfl
@[simp] theorem State.setRegion_wire (i : Fin 64) (r : RegionStatus) (s : State) : (State.setRegion i r s).wire = s.wire := rfl
@[simp] theorem State.setRegion_pending (i : Fin 64) (r : RegionStatus) (s : State) : (State.setRegion i r s).pending = s.pending := rfl

@[simp] theorem State.setDigest_resetHeld (i : Fin 64) (r : Digest) (s : State) : (State.setDigest i r s).resetHeld = s.resetHeld := rfl
@[simp] theorem State.setDigest_timeBase (i : Fin 64) (r : Digest) (s : State) : (State.setDigest i r s).timeBase = s.timeBase := rfl
@[simp] theorem State.setDigest_mode (i : Fin 64) (r : Digest) (s : State) : (State.setDigest i r s).mode = s.mode := rfl
@[simp] theorem State.setDigest_loader (i : Fin 64) (r : Digest) (s : State) : (State.setDigest i r s).loader = s.loader := rfl
@[simp] theorem State.setDigest_serialSelect (i : Fin 64) (r : Digest) (s : State) : (State.setDigest i r s).serialSelect = s.serialSelect := rfl
@[simp] theorem State.setDigest_active (i : Fin 64) (r : Digest) (s : State) : (State.setDigest i r s).active = s.active := rfl
@[simp] theorem State.setDigest_staging (i : Fin 64) (r : Digest) (s : State) : (State.setDigest i r s).staging = s.staging := rfl
@[simp] theorem State.setDigest_generation (i : Fin 64) (r : Digest) (s : State) : (State.setDigest i r s).generation = s.generation := rfl
@[simp] theorem State.setDigest_currentTotal (i : Fin 64) (r : Digest) (s : State) : (State.setDigest i r s).currentTotal = s.currentTotal := rfl
@[simp] theorem State.setDigest_previousTotal (i : Fin 64) (r : Digest) (s : State) : (State.setDigest i r s).previousTotal = s.previousTotal := rfl
@[simp] theorem State.setDigest_regions (i : Fin 64) (r : Digest) (s : State) : (State.setDigest i r s).regions = s.regions := rfl
@[simp] theorem State.setDigest_digests (i : Fin 64) (r : Digest) (s : State) : (State.setDigest i r s).digests = s.digests.set i r := rfl
@[simp] theorem State.setDigest_requesters (i : Fin 64) (r : Digest) (s : State) : (State.setDigest i r s).requesters = s.requesters := rfl
@[simp] theorem State.setDigest_admissionWait (i : Fin 64) (r : Digest) (s : State) : (State.setDigest i r s).admissionWait = s.admissionWait := rfl
@[simp] theorem State.setDigest_tags (i : Fin 64) (r : Digest) (s : State) : (State.setDigest i r s).tags = s.tags := rfl
@[simp] theorem State.setDigest_freeTags (i : Fin 64) (r : Digest) (s : State) : (State.setDigest i r s).freeTags = s.freeTags := rfl
@[simp] theorem State.setDigest_replyTimeout (i : Fin 64) (r : Digest) (s : State) : (State.setDigest i r s).replyTimeout = s.replyTimeout := rfl
@[simp] theorem State.setDigest_completionWait (i : Fin 64) (r : Digest) (s : State) : (State.setDigest i r s).completionWait = s.completionWait := rfl
@[simp] theorem State.setDigest_issueQueue (i : Fin 64) (r : Digest) (s : State) : (State.setDigest i r s).issueQueue = s.issueQueue := rfl
@[simp] theorem State.setDigest_lastGranted (i : Fin 64) (r : Digest) (s : State) : (State.setDigest i r s).lastGranted = s.lastGranted := rfl
@[simp] theorem State.setDigest_channels (i : Fin 64) (r : Digest) (s : State) : (State.setDigest i r s).channels = s.channels := rfl
@[simp] theorem State.setDigest_faultLog (i : Fin 64) (r : Digest) (s : State) : (State.setDigest i r s).faultLog = s.faultLog := rfl
@[simp] theorem State.setDigest_lostCount (i : Fin 64) (r : Digest) (s : State) : (State.setDigest i r s).lostCount = s.lostCount := rfl
@[simp] theorem State.setDigest_pendingCauses (i : Fin 64) (r : Digest) (s : State) : (State.setDigest i r s).pendingCauses = s.pendingCauses := rfl
@[simp] theorem State.setDigest_enabledCauses (i : Fin 64) (r : Digest) (s : State) : (State.setDigest i r s).enabledCauses = s.enabledCauses := rfl
@[simp] theorem State.setDigest_armed (i : Fin 64) (r : Digest) (s : State) : (State.setDigest i r s).armed = s.armed := rfl
@[simp] theorem State.setDigest_noticeRequester (i : Fin 64) (r : Digest) (s : State) : (State.setDigest i r s).noticeRequester = s.noticeRequester := rfl
@[simp] theorem State.setDigest_command (i : Fin 64) (r : Digest) (s : State) : (State.setDigest i r s).command = s.command := rfl
@[simp] theorem State.setDigest_uPort (i : Fin 64) (r : Digest) (s : State) : (State.setDigest i r s).uPort = s.uPort := rfl
@[simp] theorem State.setDigest_dPort (i : Fin 64) (r : Digest) (s : State) : (State.setDigest i r s).dPort = s.dPort := rfl
@[simp] theorem State.setDigest_discardedReplies (i : Fin 64) (r : Digest) (s : State) : (State.setDigest i r s).discardedReplies = s.discardedReplies := rfl
@[simp] theorem State.setDigest_replyQueue (i : Fin 64) (r : Digest) (s : State) : (State.setDigest i r s).replyQueue = s.replyQueue := rfl
@[simp] theorem State.setDigest_wire (i : Fin 64) (r : Digest) (s : State) : (State.setDigest i r s).wire = s.wire := rfl
@[simp] theorem State.setDigest_pending (i : Fin 64) (r : Digest) (s : State) : (State.setDigest i r s).pending = s.pending := rfl

@[simp] theorem State.setChannel_resetHeld (c : Fin 2) (r : Channel) (s : State) : (State.setChannel c r s).resetHeld = s.resetHeld := rfl
@[simp] theorem State.setChannel_timeBase (c : Fin 2) (r : Channel) (s : State) : (State.setChannel c r s).timeBase = s.timeBase := rfl
@[simp] theorem State.setChannel_mode (c : Fin 2) (r : Channel) (s : State) : (State.setChannel c r s).mode = s.mode := rfl
@[simp] theorem State.setChannel_loader (c : Fin 2) (r : Channel) (s : State) : (State.setChannel c r s).loader = s.loader := rfl
@[simp] theorem State.setChannel_serialSelect (c : Fin 2) (r : Channel) (s : State) : (State.setChannel c r s).serialSelect = s.serialSelect := rfl
@[simp] theorem State.setChannel_active (c : Fin 2) (r : Channel) (s : State) : (State.setChannel c r s).active = s.active := rfl
@[simp] theorem State.setChannel_staging (c : Fin 2) (r : Channel) (s : State) : (State.setChannel c r s).staging = s.staging := rfl
@[simp] theorem State.setChannel_generation (c : Fin 2) (r : Channel) (s : State) : (State.setChannel c r s).generation = s.generation := rfl
@[simp] theorem State.setChannel_currentTotal (c : Fin 2) (r : Channel) (s : State) : (State.setChannel c r s).currentTotal = s.currentTotal := rfl
@[simp] theorem State.setChannel_previousTotal (c : Fin 2) (r : Channel) (s : State) : (State.setChannel c r s).previousTotal = s.previousTotal := rfl
@[simp] theorem State.setChannel_regions (c : Fin 2) (r : Channel) (s : State) : (State.setChannel c r s).regions = s.regions := rfl
@[simp] theorem State.setChannel_digests (c : Fin 2) (r : Channel) (s : State) : (State.setChannel c r s).digests = s.digests := rfl
@[simp] theorem State.setChannel_requesters (c : Fin 2) (r : Channel) (s : State) : (State.setChannel c r s).requesters = s.requesters := rfl
@[simp] theorem State.setChannel_admissionWait (c : Fin 2) (r : Channel) (s : State) : (State.setChannel c r s).admissionWait = s.admissionWait := rfl
@[simp] theorem State.setChannel_tags (c : Fin 2) (r : Channel) (s : State) : (State.setChannel c r s).tags = s.tags := rfl
@[simp] theorem State.setChannel_freeTags (c : Fin 2) (r : Channel) (s : State) : (State.setChannel c r s).freeTags = s.freeTags := rfl
@[simp] theorem State.setChannel_replyTimeout (c : Fin 2) (r : Channel) (s : State) : (State.setChannel c r s).replyTimeout = s.replyTimeout := rfl
@[simp] theorem State.setChannel_completionWait (c : Fin 2) (r : Channel) (s : State) : (State.setChannel c r s).completionWait = s.completionWait := rfl
@[simp] theorem State.setChannel_issueQueue (c : Fin 2) (r : Channel) (s : State) : (State.setChannel c r s).issueQueue = s.issueQueue := rfl
@[simp] theorem State.setChannel_lastGranted (c : Fin 2) (r : Channel) (s : State) : (State.setChannel c r s).lastGranted = s.lastGranted := rfl
@[simp] theorem State.setChannel_channels (c : Fin 2) (r : Channel) (s : State) : (State.setChannel c r s).channels = s.channels.set c r := rfl
@[simp] theorem State.setChannel_faultLog (c : Fin 2) (r : Channel) (s : State) : (State.setChannel c r s).faultLog = s.faultLog := rfl
@[simp] theorem State.setChannel_lostCount (c : Fin 2) (r : Channel) (s : State) : (State.setChannel c r s).lostCount = s.lostCount := rfl
@[simp] theorem State.setChannel_pendingCauses (c : Fin 2) (r : Channel) (s : State) : (State.setChannel c r s).pendingCauses = s.pendingCauses := rfl
@[simp] theorem State.setChannel_enabledCauses (c : Fin 2) (r : Channel) (s : State) : (State.setChannel c r s).enabledCauses = s.enabledCauses := rfl
@[simp] theorem State.setChannel_armed (c : Fin 2) (r : Channel) (s : State) : (State.setChannel c r s).armed = s.armed := rfl
@[simp] theorem State.setChannel_noticeRequester (c : Fin 2) (r : Channel) (s : State) : (State.setChannel c r s).noticeRequester = s.noticeRequester := rfl
@[simp] theorem State.setChannel_command (c : Fin 2) (r : Channel) (s : State) : (State.setChannel c r s).command = s.command := rfl
@[simp] theorem State.setChannel_uPort (c : Fin 2) (r : Channel) (s : State) : (State.setChannel c r s).uPort = s.uPort := rfl
@[simp] theorem State.setChannel_dPort (c : Fin 2) (r : Channel) (s : State) : (State.setChannel c r s).dPort = s.dPort := rfl
@[simp] theorem State.setChannel_discardedReplies (c : Fin 2) (r : Channel) (s : State) : (State.setChannel c r s).discardedReplies = s.discardedReplies := rfl
@[simp] theorem State.setChannel_replyQueue (c : Fin 2) (r : Channel) (s : State) : (State.setChannel c r s).replyQueue = s.replyQueue := rfl
@[simp] theorem State.setChannel_wire (c : Fin 2) (r : Channel) (s : State) : (State.setChannel c r s).wire = s.wire := rfl
@[simp] theorem State.setChannel_pending (c : Fin 2) (r : Channel) (s : State) : (State.setChannel c r s).pending = s.pending := rfl

@[simp] theorem State.send_resetHeld (x : Sent) (s : State) : (State.send x s).resetHeld = s.resetHeld := rfl
@[simp] theorem State.send_timeBase (x : Sent) (s : State) : (State.send x s).timeBase = s.timeBase := rfl
@[simp] theorem State.send_mode (x : Sent) (s : State) : (State.send x s).mode = s.mode := rfl
@[simp] theorem State.send_loader (x : Sent) (s : State) : (State.send x s).loader = s.loader := rfl
@[simp] theorem State.send_serialSelect (x : Sent) (s : State) : (State.send x s).serialSelect = s.serialSelect := rfl
@[simp] theorem State.send_active (x : Sent) (s : State) : (State.send x s).active = s.active := rfl
@[simp] theorem State.send_staging (x : Sent) (s : State) : (State.send x s).staging = s.staging := rfl
@[simp] theorem State.send_generation (x : Sent) (s : State) : (State.send x s).generation = s.generation := rfl
@[simp] theorem State.send_currentTotal (x : Sent) (s : State) : (State.send x s).currentTotal = s.currentTotal := rfl
@[simp] theorem State.send_previousTotal (x : Sent) (s : State) : (State.send x s).previousTotal = s.previousTotal := rfl
@[simp] theorem State.send_regions (x : Sent) (s : State) : (State.send x s).regions = s.regions := rfl
@[simp] theorem State.send_digests (x : Sent) (s : State) : (State.send x s).digests = s.digests := rfl
@[simp] theorem State.send_requesters (x : Sent) (s : State) : (State.send x s).requesters = s.requesters := rfl
@[simp] theorem State.send_admissionWait (x : Sent) (s : State) : (State.send x s).admissionWait = s.admissionWait := rfl
@[simp] theorem State.send_tags (x : Sent) (s : State) : (State.send x s).tags = s.tags := rfl
@[simp] theorem State.send_freeTags (x : Sent) (s : State) : (State.send x s).freeTags = s.freeTags := rfl
@[simp] theorem State.send_replyTimeout (x : Sent) (s : State) : (State.send x s).replyTimeout = s.replyTimeout := rfl
@[simp] theorem State.send_completionWait (x : Sent) (s : State) : (State.send x s).completionWait = s.completionWait := rfl
@[simp] theorem State.send_issueQueue (x : Sent) (s : State) : (State.send x s).issueQueue = s.issueQueue := rfl
@[simp] theorem State.send_lastGranted (x : Sent) (s : State) : (State.send x s).lastGranted = s.lastGranted := rfl
@[simp] theorem State.send_channels (x : Sent) (s : State) : (State.send x s).channels = s.channels := rfl
@[simp] theorem State.send_faultLog (x : Sent) (s : State) : (State.send x s).faultLog = s.faultLog := rfl
@[simp] theorem State.send_lostCount (x : Sent) (s : State) : (State.send x s).lostCount = s.lostCount := rfl
@[simp] theorem State.send_pendingCauses (x : Sent) (s : State) : (State.send x s).pendingCauses = s.pendingCauses := rfl
@[simp] theorem State.send_enabledCauses (x : Sent) (s : State) : (State.send x s).enabledCauses = s.enabledCauses := rfl
@[simp] theorem State.send_armed (x : Sent) (s : State) : (State.send x s).armed = s.armed := rfl
@[simp] theorem State.send_noticeRequester (x : Sent) (s : State) : (State.send x s).noticeRequester = s.noticeRequester := rfl
@[simp] theorem State.send_command (x : Sent) (s : State) : (State.send x s).command = s.command := rfl
@[simp] theorem State.send_uPort (x : Sent) (s : State) : (State.send x s).uPort = s.uPort := rfl
@[simp] theorem State.send_dPort (x : Sent) (s : State) : (State.send x s).dPort = s.dPort := rfl
@[simp] theorem State.send_discardedReplies (x : Sent) (s : State) : (State.send x s).discardedReplies = s.discardedReplies := rfl
@[simp] theorem State.send_replyQueue (x : Sent) (s : State) : (State.send x s).replyQueue = s.replyQueue := rfl
@[simp] theorem State.send_wire (x : Sent) (s : State) : (State.send x s).wire = s.wire ++ [x] := rfl
@[simp] theorem State.send_pending (x : Sent) (s : State) : (State.send x s).pending = s.pending := rfl

@[simp] theorem State.raise_resetHeld (c : Cause) (s : State) : (State.raise c s).resetHeld = s.resetHeld := rfl
@[simp] theorem State.raise_timeBase (c : Cause) (s : State) : (State.raise c s).timeBase = s.timeBase := rfl
@[simp] theorem State.raise_mode (c : Cause) (s : State) : (State.raise c s).mode = s.mode := rfl
@[simp] theorem State.raise_loader (c : Cause) (s : State) : (State.raise c s).loader = s.loader := rfl
@[simp] theorem State.raise_serialSelect (c : Cause) (s : State) : (State.raise c s).serialSelect = s.serialSelect := rfl
@[simp] theorem State.raise_active (c : Cause) (s : State) : (State.raise c s).active = s.active := rfl
@[simp] theorem State.raise_staging (c : Cause) (s : State) : (State.raise c s).staging = s.staging := rfl
@[simp] theorem State.raise_generation (c : Cause) (s : State) : (State.raise c s).generation = s.generation := rfl
@[simp] theorem State.raise_currentTotal (c : Cause) (s : State) : (State.raise c s).currentTotal = s.currentTotal := rfl
@[simp] theorem State.raise_previousTotal (c : Cause) (s : State) : (State.raise c s).previousTotal = s.previousTotal := rfl
@[simp] theorem State.raise_regions (c : Cause) (s : State) : (State.raise c s).regions = s.regions := rfl
@[simp] theorem State.raise_digests (c : Cause) (s : State) : (State.raise c s).digests = s.digests := rfl
@[simp] theorem State.raise_requesters (c : Cause) (s : State) : (State.raise c s).requesters = s.requesters := rfl
@[simp] theorem State.raise_admissionWait (c : Cause) (s : State) : (State.raise c s).admissionWait = s.admissionWait := rfl
@[simp] theorem State.raise_tags (c : Cause) (s : State) : (State.raise c s).tags = s.tags := rfl
@[simp] theorem State.raise_freeTags (c : Cause) (s : State) : (State.raise c s).freeTags = s.freeTags := rfl
@[simp] theorem State.raise_replyTimeout (c : Cause) (s : State) : (State.raise c s).replyTimeout = s.replyTimeout := rfl
@[simp] theorem State.raise_completionWait (c : Cause) (s : State) : (State.raise c s).completionWait = s.completionWait := rfl
@[simp] theorem State.raise_issueQueue (c : Cause) (s : State) : (State.raise c s).issueQueue = s.issueQueue := rfl
@[simp] theorem State.raise_lastGranted (c : Cause) (s : State) : (State.raise c s).lastGranted = s.lastGranted := rfl
@[simp] theorem State.raise_channels (c : Cause) (s : State) : (State.raise c s).channels = s.channels := rfl
@[simp] theorem State.raise_faultLog (c : Cause) (s : State) : (State.raise c s).faultLog = s.faultLog := rfl
@[simp] theorem State.raise_lostCount (c : Cause) (s : State) : (State.raise c s).lostCount = s.lostCount := rfl
@[simp] theorem State.raise_pendingCauses (c : Cause) (s : State) : (State.raise c s).pendingCauses = s.pendingCauses ||| causeBit c := rfl
@[simp] theorem State.raise_enabledCauses (c : Cause) (s : State) : (State.raise c s).enabledCauses = s.enabledCauses := rfl
@[simp] theorem State.raise_armed (c : Cause) (s : State) : (State.raise c s).armed = s.armed := rfl
@[simp] theorem State.raise_noticeRequester (c : Cause) (s : State) : (State.raise c s).noticeRequester = s.noticeRequester := rfl
@[simp] theorem State.raise_command (c : Cause) (s : State) : (State.raise c s).command = s.command := rfl
@[simp] theorem State.raise_uPort (c : Cause) (s : State) : (State.raise c s).uPort = s.uPort := rfl
@[simp] theorem State.raise_dPort (c : Cause) (s : State) : (State.raise c s).dPort = s.dPort := rfl
@[simp] theorem State.raise_discardedReplies (c : Cause) (s : State) : (State.raise c s).discardedReplies = s.discardedReplies := rfl
@[simp] theorem State.raise_replyQueue (c : Cause) (s : State) : (State.raise c s).replyQueue = s.replyQueue := rfl
@[simp] theorem State.raise_wire (c : Cause) (s : State) : (State.raise c s).wire = s.wire := rfl
@[simp] theorem State.raise_pending (c : Cause) (s : State) : (State.raise c s).pending = s.pending := rfl

@[simp] theorem State.setPort_resetHeld (p : Port) (l : LinkPort) (s : State) : (s.setPort p l).resetHeld = s.resetHeld := by
  cases p <;> rfl
@[simp] theorem State.setPort_timeBase (p : Port) (l : LinkPort) (s : State) : (s.setPort p l).timeBase = s.timeBase := by
  cases p <;> rfl
@[simp] theorem State.setPort_mode (p : Port) (l : LinkPort) (s : State) : (s.setPort p l).mode = s.mode := by
  cases p <;> rfl
@[simp] theorem State.setPort_loader (p : Port) (l : LinkPort) (s : State) : (s.setPort p l).loader = s.loader := by
  cases p <;> rfl
@[simp] theorem State.setPort_serialSelect (p : Port) (l : LinkPort) (s : State) : (s.setPort p l).serialSelect = s.serialSelect := by
  cases p <;> rfl
@[simp] theorem State.setPort_active (p : Port) (l : LinkPort) (s : State) : (s.setPort p l).active = s.active := by
  cases p <;> rfl
@[simp] theorem State.setPort_staging (p : Port) (l : LinkPort) (s : State) : (s.setPort p l).staging = s.staging := by
  cases p <;> rfl
@[simp] theorem State.setPort_generation (p : Port) (l : LinkPort) (s : State) : (s.setPort p l).generation = s.generation := by
  cases p <;> rfl
@[simp] theorem State.setPort_currentTotal (p : Port) (l : LinkPort) (s : State) : (s.setPort p l).currentTotal = s.currentTotal := by
  cases p <;> rfl
@[simp] theorem State.setPort_previousTotal (p : Port) (l : LinkPort) (s : State) : (s.setPort p l).previousTotal = s.previousTotal := by
  cases p <;> rfl
@[simp] theorem State.setPort_regions (p : Port) (l : LinkPort) (s : State) : (s.setPort p l).regions = s.regions := by
  cases p <;> rfl
@[simp] theorem State.setPort_digests (p : Port) (l : LinkPort) (s : State) : (s.setPort p l).digests = s.digests := by
  cases p <;> rfl
@[simp] theorem State.setPort_requesters (p : Port) (l : LinkPort) (s : State) : (s.setPort p l).requesters = s.requesters := by
  cases p <;> rfl
@[simp] theorem State.setPort_admissionWait (p : Port) (l : LinkPort) (s : State) : (s.setPort p l).admissionWait = s.admissionWait := by
  cases p <;> rfl
@[simp] theorem State.setPort_tags (p : Port) (l : LinkPort) (s : State) : (s.setPort p l).tags = s.tags := by
  cases p <;> rfl
@[simp] theorem State.setPort_freeTags (p : Port) (l : LinkPort) (s : State) : (s.setPort p l).freeTags = s.freeTags := by
  cases p <;> rfl
@[simp] theorem State.setPort_replyTimeout (p : Port) (l : LinkPort) (s : State) : (s.setPort p l).replyTimeout = s.replyTimeout := by
  cases p <;> rfl
@[simp] theorem State.setPort_completionWait (p : Port) (l : LinkPort) (s : State) : (s.setPort p l).completionWait = s.completionWait := by
  cases p <;> rfl
@[simp] theorem State.setPort_issueQueue (p : Port) (l : LinkPort) (s : State) : (s.setPort p l).issueQueue = s.issueQueue := by
  cases p <;> rfl
@[simp] theorem State.setPort_lastGranted (p : Port) (l : LinkPort) (s : State) : (s.setPort p l).lastGranted = s.lastGranted := by
  cases p <;> rfl
@[simp] theorem State.setPort_channels (p : Port) (l : LinkPort) (s : State) : (s.setPort p l).channels = s.channels := by
  cases p <;> rfl
@[simp] theorem State.setPort_faultLog (p : Port) (l : LinkPort) (s : State) : (s.setPort p l).faultLog = s.faultLog := by
  cases p <;> rfl
@[simp] theorem State.setPort_lostCount (p : Port) (l : LinkPort) (s : State) : (s.setPort p l).lostCount = s.lostCount := by
  cases p <;> rfl
@[simp] theorem State.setPort_pendingCauses (p : Port) (l : LinkPort) (s : State) : (s.setPort p l).pendingCauses = s.pendingCauses := by
  cases p <;> rfl
@[simp] theorem State.setPort_enabledCauses (p : Port) (l : LinkPort) (s : State) : (s.setPort p l).enabledCauses = s.enabledCauses := by
  cases p <;> rfl
@[simp] theorem State.setPort_armed (p : Port) (l : LinkPort) (s : State) : (s.setPort p l).armed = s.armed := by
  cases p <;> rfl
@[simp] theorem State.setPort_noticeRequester (p : Port) (l : LinkPort) (s : State) : (s.setPort p l).noticeRequester = s.noticeRequester := by
  cases p <;> rfl
@[simp] theorem State.setPort_command (p : Port) (l : LinkPort) (s : State) : (s.setPort p l).command = s.command := by
  cases p <;> rfl
@[simp] theorem State.setPort_discardedReplies (p : Port) (l : LinkPort) (s : State) : (s.setPort p l).discardedReplies = s.discardedReplies := by
  cases p <;> rfl
@[simp] theorem State.setPort_replyQueue (p : Port) (l : LinkPort) (s : State) : (s.setPort p l).replyQueue = s.replyQueue := by
  cases p <;> rfl
@[simp] theorem State.setPort_wire (p : Port) (l : LinkPort) (s : State) : (s.setPort p l).wire = s.wire := by
  cases p <;> rfl
@[simp] theorem State.setPort_pending (p : Port) (l : LinkPort) (s : State) : (s.setPort p l).pending = s.pending := by
  cases p <;> rfl
@[simp] theorem State.port_setPort (p : Port) (l : LinkPort) (s : State) : (s.setPort p l).port p = l := by
  cases p <;> rfl
@[simp] theorem State.setPort_port (p : Port) (s : State) : s.setPort p (s.port p) = s := by cases p <;> rfl
@[simp] theorem State.setPort_setPort (p : Port) (l m : LinkPort) (s : State) :
    (s.setPort p l).setPort p m = s.setPort p m := by
  cases p <;> rfl
@[simp] theorem State.setPort_u (l : LinkPort) (s : State) : s.setPort .u l = { s with uPort := l } := rfl
@[simp] theorem State.setPort_d (l : LinkPort) (s : State) : s.setPort .d l = { s with dPort := l } := rfl
@[simp] theorem State.port_u (s : State) : s.port .u = s.uPort := rfl
@[simp] theorem State.port_d (s : State) : s.port .d = s.dPort := rfl

end Sys2Proof.Machine
end

