-- ==== Sys2Proof/Laws/Ops.lean ====
section
/-! SUPPORT. What the shared operations can do: for each a frame (the fields it may change, every other one named
equal by the record update) and what it keeps of the fields it changes. -/
namespace Sys2Proof.Machine

/-! ### Tables -/

/-- Each record of a changed table is the changed record. -/
@[simp] theorem mapTable_getElem {α : Type} {n : Nat} (f : α → α) (v : Vector α n) (i : Fin n) :
    (mapTable f v)[i] = f v[i] := by
  simp [mapTable]

/-- Each record of a table changed by index is the changed record. -/
@[simp] theorem mapTableIndexed_getElem {α : Type} {n : Nat} (f : Nat → α → α) (v : Vector α n) (i : Fin n) :
    (mapTableIndexed f v)[i] = f i.val v[i] := by
  simp [mapTableIndexed]

/-! ### Faults and replies -/

/-- A fault touches the log, the lost count and the pending causes. -/
theorem State.takeFault_frame (f : FaultReport) (s : State) :
    s.takeFault f = { s with
      faultLog := (s.takeFault f).faultLog, lostCount := (s.takeFault f).lostCount
      pendingCauses := (s.takeFault f).pendingCauses } := by
  unfold State.takeFault State.addFault
  repeat' split
  all_goals rfl

/-- What a fault leaves in the log depends on the log, its lost count, the pending causes and the time alone. -/
theorem State.takeFault_congr (f : FaultReport) (s t : State) (log : s.faultLog = t.faultLog)
    (lost : s.lostCount = t.lostCount) (causes : s.pendingCauses = t.pendingCauses)
    (time : s.timeBase = t.timeBase) :
    (s.takeFault f).faultLog = (t.takeFault f).faultLog ∧ (s.takeFault f).lostCount = (t.takeFault f).lostCount ∧
      (s.takeFault f).pendingCauses = (t.takeFault f).pendingCauses := by
  unfold State.takeFault State.addFault
  rw [log, lost, time]
  repeat' split
  all_goals simp [*]

/-- A reply touches the reply queue or the count of discarded replies. -/
theorem State.placeReply_frame (r : Reply) (s : State) :
    s.placeReply r = { s with
      replyQueue := (s.placeReply r).replyQueue, discardedReplies := (s.placeReply r).discardedReplies } := by
  unfold State.placeReply
  split <;> rfl

/-- A reply is appended while the U port is UP. -/
theorem State.placeReply_up (r : Reply) (s : State) (up : s.uPort.state = .up) :
    s.placeReply r = { s with replyQueue := s.replyQueue ++ [r] } := by
  simp [State.placeReply, up]

/-- A reply is counted while the U port is not UP. -/
theorem State.placeReply_not_up (r : Reply) (s : State) (up : s.uPort.state ≠ .up) :
    s.placeReply r = { s with discardedReplies := s.discardedReplies + 1#32 } := by
  simp [State.placeReply, up]

/-! ### Credit and the swap -/

/-- The late grant touches the U port's credit and the line. -/
theorem State.grantWithheld_frame (s : State) :
    s.grantWithheld = { s with
      wire := s.grantWithheld.wire
      uPort := { s.uPort with
        allowance := s.grantWithheld.uPort.allowance, withholds := s.grantWithheld.uPort.withholds } } := by
  unfold State.grantWithheld
  split <;> rfl

/-- The swap touches the active bank, the generation, the totals, the command status, the mode, the pending causes, and
at the end of loading the U port's credit and the line. -/
theorem State.swap_frame (s : State) :
    s.swap = { s with
      active := s.staging, generation := s.generation + 1#8, previousTotal := s.currentTotal, currentTotal := 0
      command := s.command.commitDone, mode := .normal, pendingCauses := s.swap.pendingCauses
      wire := s.swap.wire
      uPort := { s.uPort with allowance := s.swap.uPort.allowance, withholds := s.swap.uPort.withholds } } := by
  unfold State.swap
  dsimp only
  split
  · rw [State.grantWithheld_frame]; rfl
  · rfl

/-- A weighed swap is a swap or nothing. -/
theorem State.swapIfDrained_cases (s : State) :
    (s.command.phase = some .drain ∧ s.previousTotal = 0 ∧ s.swapIfDrained = s.swap) ∨
      ((s.command.phase ≠ some .drain ∨ s.previousTotal ≠ 0) ∧ s.swapIfDrained = s) := by
  unfold State.swapIfDrained
  by_cases drain : s.command.phase = some .drain <;> by_cases zero : s.previousTotal = 0 <;> simp [drain, zero]

/-- A weighed swap touches what a swap touches. -/
theorem State.swapIfDrained_frame (s : State) :
    s.swapIfDrained = { s with
      active := s.swapIfDrained.active, generation := s.swapIfDrained.generation
      previousTotal := s.swapIfDrained.previousTotal, currentTotal := s.swapIfDrained.currentTotal
      command := s.swapIfDrained.command, mode := s.swapIfDrained.mode
      pendingCauses := s.swapIfDrained.pendingCauses, wire := s.swapIfDrained.wire
      uPort := { s.uPort with
        allowance := s.swapIfDrained.uPort.allowance, withholds := s.swapIfDrained.uPort.withholds } } := by
  rcases s.swapIfDrained_cases with ⟨_, _, same⟩ | ⟨_, same⟩ <;> rw [same]
  rw [State.swap_frame]

/-! ### In-flight counts -/

/-- The fall of an index touches its record and the pending causes. -/
theorem State.fallIndex_frame (r : Fin 64) (s : State) :
    s.fallIndex r = { s with
      regions := s.regions.set r (s.regions[r]).fall, pendingCauses := (s.fallIndex r).pendingCauses } := by
  unfold State.fallIndex
  dsimp only
  split <;> rfl

/-- The fall of a total touches the totals. -/
theorem State.fallTotal_frame (g : BitVec 8) (s : State) :
    s.fallTotal g = { s with
      currentTotal := (s.fallTotal g).currentTotal, previousTotal := (s.fallTotal g).previousTotal } := by
  unfold State.fallTotal
  repeat' split
  all_goals rfl

/-- The end of an item touches the record of its index and what a weighed swap touches. -/
theorem State.fall_frame (r : Fin 64) (g : BitVec 8) (s : State) :
    s.fall r g = { s with
      regions := s.regions.set r (s.regions[r]).fall
      active := (s.fall r g).active, generation := (s.fall r g).generation
      previousTotal := (s.fall r g).previousTotal, currentTotal := (s.fall r g).currentTotal
      command := (s.fall r g).command, mode := (s.fall r g).mode, pendingCauses := (s.fall r g).pendingCauses
      wire := (s.fall r g).wire
      uPort := { s.uPort with
        allowance := (s.fall r g).uPort.allowance, withholds := (s.fall r g).uPort.withholds } } := by
  unfold State.fall
  rw [State.swapIfDrained_frame, State.fallTotal_frame, State.fallIndex_frame]

/-- One more item touches the record of its index and the current total. -/
theorem State.rise_frame (r : Fin 64) (s : State) :
    s.rise r = { s with regions := (s.rise r).regions, currentTotal := s.currentTotal + 1 } := rfl

/-! ### Tags -/

/-- Taking a tag touches the tag records and the free list. -/
theorem State.takeTag_frame (r : TagRecord) (s : State) :
    (s.takeTag r).2 = { s with tags := (s.takeTag r).2.tags, freeTags := (s.takeTag r).2.freeTags } := by
  unfold State.takeTag
  split <;> rfl

/-- The tag taken is the head of the free list; its record is QUEUED. -/
theorem State.takeTag_cons (r : TagRecord) (s : State) (t : Fin 48) (rest : List (Fin 48))
    (free : s.freeTags = t :: rest) :
    s.takeTag r = (some t, { s with
      tags := s.tags.set t { r with state := .queued, deadline := none, reached := false }, freeTags := rest }) := by
  simp only [State.takeTag, free]
  rfl

/-- No tag is taken from an empty free list. -/
theorem State.takeTag_nil (r : TagRecord) (s : State) (free : s.freeTags = []) : s.takeTag r = (none, s) := by
  simp only [State.takeTag, free]

/-- What the end of a tag's counting touches. -/
theorem State.endCounts_frame (r : TagRecord) (s : State) :
    s.endCounts r = { s with
      requesters := (s.endCounts r).requesters, regions := (s.endCounts r).regions
      active := (s.endCounts r).active, generation := (s.endCounts r).generation
      previousTotal := (s.endCounts r).previousTotal, currentTotal := (s.endCounts r).currentTotal
      command := (s.endCounts r).command, mode := (s.endCounts r).mode
      pendingCauses := (s.endCounts r).pendingCauses, wire := (s.endCounts r).wire
      uPort := { s.uPort with
        allowance := (s.endCounts r).uPort.allowance, withholds := (s.endCounts r).uPort.withholds } } := by
  unfold State.endCounts
  dsimp only
  by_cases item : r.inFlight = true <;> by_cases owed : r.owes = true <;>
    simp only [item, owed, if_true, if_false, Bool.false_eq_true]
  · rw [State.fall_frame]; rfl
  · rw [State.fall_frame]
  · rfl

/-- What freeing a tag touches. -/
theorem State.freeTag_frame (t : Fin 48) (s : State) :
    s.freeTag t = { s with
      tags := (s.freeTag t).tags, freeTags := (s.freeTag t).freeTags, admissionWait := (s.freeTag t).admissionWait
      requesters := (s.freeTag t).requesters, regions := (s.freeTag t).regions
      active := (s.freeTag t).active, generation := (s.freeTag t).generation
      previousTotal := (s.freeTag t).previousTotal, currentTotal := (s.freeTag t).currentTotal
      command := (s.freeTag t).command, mode := (s.freeTag t).mode, pendingCauses := (s.freeTag t).pendingCauses
      wire := (s.freeTag t).wire
      uPort := { s.uPort with
        allowance := (s.freeTag t).uPort.allowance, withholds := (s.freeTag t).uPort.withholds } } := by
  unfold State.freeTag
  split
  · rfl
  · rw [State.endCounts_frame]; rfl

/-- What the expiry of a tag touches. -/
theorem State.expireTag_frame (t : Fin 48) (s : State) :
    s.expireTag t = { s with
      tags := (s.expireTag t).tags
      requesters := (s.expireTag t).requesters, regions := (s.expireTag t).regions
      active := (s.expireTag t).active, generation := (s.expireTag t).generation
      previousTotal := (s.expireTag t).previousTotal, currentTotal := (s.expireTag t).currentTotal
      command := (s.expireTag t).command, mode := (s.expireTag t).mode
      pendingCauses := (s.expireTag t).pendingCauses, wire := (s.expireTag t).wire
      uPort := { s.uPort with
        allowance := (s.expireTag t).uPort.allowance, withholds := (s.expireTag t).uPort.withholds } } := by
  unfold State.expireTag
  split
  · rw [State.endCounts_frame]; rfl
  · rfl

/-- The issue of a tag touches the tag records. -/
theorem State.issueTag_frame (t : Fin 48) (s : State) : s.issueTag t = { s with tags := (s.issueTag t).tags } := by
  unfold State.issueTag
  split <;> rfl

/-- The tag pool, the log and the admission wait are what the closing of the tags touches. -/
theorem State.closeTag_frame (s : State) (t : Fin 48) :
    s.closeTag t = { s with
      tags := (s.closeTag t).tags, freeTags := (s.closeTag t).freeTags
      admissionWait := (s.closeTag t).admissionWait, faultLog := (s.closeTag t).faultLog
      lostCount := (s.closeTag t).lostCount, pendingCauses := (s.closeTag t).pendingCauses } := by
  unfold State.closeTag
  dsimp only
  split <;> first | rfl | (rw [State.takeFault_frame]; rfl)

/-- The closing of all tags touches what the closing of one touches. -/
theorem State.closeTags_frame (s : State) :
    s.closeTags = { s with
      tags := s.closeTags.tags, freeTags := s.closeTags.freeTags, admissionWait := s.closeTags.admissionWait
      faultLog := s.closeTags.faultLog, lostCount := s.closeTags.lostCount
      pendingCauses := s.closeTags.pendingCauses } := by
  unfold State.closeTags
  induction List.finRange 48 generalizing s with
  | nil => rfl
  | cons t rest step => rw [List.foldl_cons, step, State.closeTag_frame]

/-- The dropping of one entry touches the log. -/
theorem State.dropEntry_frame (s : State) (e : IssueEntry) :
    s.dropEntry e = { s with
      faultLog := (s.dropEntry e).faultLog, lostCount := (s.dropEntry e).lostCount
      pendingCauses := (s.dropEntry e).pendingCauses } := by
  unfold State.dropEntry
  split
  · exact State.takeFault_frame _ s
  · rfl

/-- The emptying of the issue queue touches it, the log and the admission wait. -/
theorem State.emptyIssueQueue_frame (s : State) :
    s.emptyIssueQueue = { s with
      issueQueue := [], admissionWait := s.emptyIssueQueue.admissionWait, faultLog := s.emptyIssueQueue.faultLog
      lostCount := s.emptyIssueQueue.lostCount, pendingCauses := s.emptyIssueQueue.pendingCauses } := by
  have dropped : ∀ (queue : List IssueEntry) (t : State), queue.foldl State.dropEntry t = { t with
      faultLog := (queue.foldl State.dropEntry t).faultLog, lostCount := (queue.foldl State.dropEntry t).lostCount
      pendingCauses := (queue.foldl State.dropEntry t).pendingCauses } := by
    intro queue
    induction queue with
    | nil => intro t; rfl
    | cons e rest step => intro t; rw [List.foldl_cons, step, State.dropEntry_frame]
  unfold State.emptyIssueQueue
  dsimp only
  rw [dropped]
  split <;> rfl

/-- The end of every item touches the region records and what a weighed swap touches. -/
theorem State.endAllInFlight_frame (s : State) :
    s.endAllInFlight = { s with
      regions := mapTable RegionStatus.lose s.regions
      active := s.endAllInFlight.active, generation := s.endAllInFlight.generation
      previousTotal := s.endAllInFlight.previousTotal, currentTotal := s.endAllInFlight.currentTotal
      command := s.endAllInFlight.command, mode := s.endAllInFlight.mode
      pendingCauses := s.endAllInFlight.pendingCauses, wire := s.endAllInFlight.wire
      uPort := { s.uPort with
        allowance := s.endAllInFlight.uPort.allowance, withholds := s.endAllInFlight.uPort.withholds } } := by
  unfold State.endAllInFlight
  dsimp only
  split
  · rw [State.swapIfDrained_frame]
    rfl
  · rw [State.swapIfDrained_frame]

/-- The end of every item leaves both totals at zero (R27). -/
theorem State.endAllInFlight_totals (s : State) :
    s.endAllInFlight.previousTotal = 0 ∧ s.endAllInFlight.currentTotal = 0 := by
  have weighed : ∀ t : State, t.previousTotal = 0 → t.currentTotal = 0 →
      t.swapIfDrained.previousTotal = 0 ∧ t.swapIfDrained.currentTotal = 0 := by
    intro t previous current
    rcases t.swapIfDrained_cases with ⟨_, _, same⟩ | ⟨_, same⟩ <;> rw [same]
    · rw [State.swap_frame]; exact ⟨current, rfl⟩
    · exact ⟨previous, current⟩
  unfold State.endAllInFlight
  dsimp only
  split <;> exact weighed _ rfl rfl

/-! ### Channels -/

/-- An address within the upstream space shows itself as the halt address. -/
theorem shownAddress_of_lt (address : Nat) (fits : address < 2 ^ 36) :
    shownAddress address = BitVec.ofNat 36 address := if_pos fits

/-- An address past the top of the upstream space shows the free value. -/
theorem shownAddress_of_ge (address : Nat) (beyond : 2 ^ 36 ≤ address) :
    shownAddress address = Config.haltAddressBeyond address := if_neg (by omega)

/-- The halt of a channel touches it and the log. -/
theorem State.haltNow_frame (c : Fin 2) (ch : Channel) (s : State) :
    s.haltNow c ch = { s with
      channels := s.channels.set c ch.halt, faultLog := (s.haltNow c ch).faultLog
      lostCount := (s.haltNow c ch).lostCount, pendingCauses := (s.haltNow c ch).pendingCauses } := by
  unfold State.haltNow
  dsimp only
  repeat' split
  all_goals first | rfl | (rw [State.takeFault_frame]; rfl)

/-- A weighed halt touches what a halt touches. -/
theorem State.haltIfEmpty_frame (c : Fin 2) (s : State) :
    s.haltIfEmpty c = { s with
      channels := (s.haltIfEmpty c).channels, faultLog := (s.haltIfEmpty c).faultLog
      lostCount := (s.haltIfEmpty c).lostCount, pendingCauses := (s.haltIfEmpty c).pendingCauses } := by
  unfold State.haltIfEmpty
  split
  · rw [State.haltNow_frame]
  · rfl

/-- The end of a formed request's item touches what the end of an item touches. -/
theorem State.dropFormed_frame (f : Option FormedRequest) (s : State) :
    s.dropFormed f = { s with
      regions := (s.dropFormed f).regions
      active := (s.dropFormed f).active, generation := (s.dropFormed f).generation
      previousTotal := (s.dropFormed f).previousTotal, currentTotal := (s.dropFormed f).currentTotal
      command := (s.dropFormed f).command, mode := (s.dropFormed f).mode
      pendingCauses := (s.dropFormed f).pendingCauses, wire := (s.dropFormed f).wire
      uPort := { s.uPort with
        allowance := (s.dropFormed f).uPort.allowance, withholds := (s.dropFormed f).uPort.withholds } } := by
  unfold State.dropFormed
  repeat' split
  · rw [State.fall_frame]
  · rfl
  · rfl

/-- What a channel's entry to DRAIN touches. -/
theorem State.enterDrain_frame (c : Fin 2) (cause : HaltCause) (index : Option (Fin 64)) (address : Option Address)
    (s : State) :
    let t := s.enterDrain c cause index address
    t = { s with
      channels := t.channels, faultLog := t.faultLog, lostCount := t.lostCount, regions := t.regions
      active := t.active, generation := t.generation, previousTotal := t.previousTotal
      currentTotal := t.currentTotal, command := t.command, mode := t.mode, pendingCauses := t.pendingCauses
      wire := t.wire
      uPort := { s.uPort with allowance := t.uPort.allowance, withholds := t.uPort.withholds } } := by
  intro t
  simp only [t]
  unfold State.enterDrain
  dsimp only
  split
  · rw [State.haltIfEmpty_frame, State.setChannel, State.dropFormed_frame]
  · rw [State.haltIfEmpty_frame]

/-- What the forming of a request touches. -/
theorem State.install_frame (c : Fin 2) (e : IssueEntry) (copyWrite : Bool)
    (change : Option (Fin 48) → Channel → Channel) (s : State) :
    let t := s.install c e copyWrite change
    t = { s with
      channels := t.channels, regions := t.regions, currentTotal := s.currentTotal + 1
      tags := t.tags, freeTags := t.freeTags } := by
  intro t
  simp only [t]
  unfold State.install State.takeFormedTag
  dsimp only
  split
  · rfl
  · rw [State.takeTag_frame]; rfl

/-- What a channel may touch whenever it weighs what it does next. -/
def State.channelMoved (s t : State) : Prop :=
  t = { s with
    channels := t.channels, faultLog := t.faultLog, lostCount := t.lostCount, regions := t.regions
    active := t.active, generation := t.generation, previousTotal := t.previousTotal, currentTotal := t.currentTotal
    command := t.command, mode := t.mode, pendingCauses := t.pendingCauses, wire := t.wire
    uPort := { s.uPort with allowance := t.uPort.allowance, withholds := t.uPort.withholds }
    tags := t.tags, freeTags := t.freeTags }

theorem State.channelMoved_refl (s : State) : s.channelMoved s := rfl

theorem State.channelMoved_trans {s t u : State} (h : s.channelMoved t) (k : t.channelMoved u) :
    s.channelMoved u := by
  unfold State.channelMoved at *
  rw [k, h]

theorem State.channelMoved_enterDrain (c : Fin 2) (cause : HaltCause) (index : Option (Fin 64))
    (address : Option Address) (s : State) : s.channelMoved (s.enterDrain c cause index address) := by
  unfold State.channelMoved
  rw [State.enterDrain_frame]

theorem State.channelMoved_install (c : Fin 2) (e : IssueEntry) (copyWrite : Bool)
    (change : Option (Fin 48) → Channel → Channel) (s : State) :
    s.channelMoved (s.install c e copyWrite change) := by
  unfold State.channelMoved
  rw [State.install_frame]

theorem State.channelMoved_formRead (c : Fin 2) (address n : Nat) (purpose : ReadPurpose) (offset lowers : Nat)
    (s : State) : s.channelMoved (s.formRead c address n purpose offset lowers) := by
  unfold State.formRead
  dsimp only
  split
  · exact State.channelMoved_enterDrain ..
  · exact State.channelMoved_install ..

theorem State.channelMoved_formWrite (c : Fin 2) (address : Nat) (data : List Word) (copyWrite : Bool)
    (change : Channel → Channel) (s : State) : s.channelMoved (s.formWrite c address data copyWrite change) := by
  unfold State.formWrite
  dsimp only
  split
  · exact State.channelMoved_enterDrain ..
  · exact State.channelMoved_install ..

theorem State.channelMoved_formNext (c : Fin 2) (s : State) : s.channelMoved (s.formNext c) := by
  unfold State.formNext State.formFetch State.formRun State.formChunk
  dsimp only
  repeat' split
  all_goals
    first
    | exact State.channelMoved_refl _
    | exact State.channelMoved_formRead ..
    | exact State.channelMoved_formWrite ..

theorem State.channelMoved_finishIfDone (c : Fin 2) (s : State) : s.channelMoved (s.finishIfDone c) := by
  unfold State.finishIfDone
  dsimp only
  repeat' split
  all_goals rfl

theorem State.channelMoved_advance (c : Fin 2) (s : State) : s.channelMoved (s.advance c) :=
  State.channelMoved_trans (State.channelMoved_finishIfDone c s) (State.channelMoved_formNext c _)

/-- A channel that weighs what to do leaves the U port's state and everything but its credit. -/
theorem State.channelMoved_uPort {s t : State} (h : s.channelMoved t) : t.uPort.state = s.uPort.state := by
  unfold State.channelMoved at h
  rw [h]

/-! ### Management -/

/-- A management row of an access that can be handed over is its action. -/
theorem State.handed_of_handsOver (a : Access) (act : State → State) (s : State) (ok : s.handsOver a = true) :
    s.handed a act = act s := by
  simp [State.handed, ok]

/-- A management row of an access that cannot be handed over changes nothing. -/
theorem State.handed_of_not_handsOver (a : Access) (act : State → State) (s : State) (no : s.handsOver a = false) :
    s.handed a act = s := by
  simp [State.handed, no]

/-- The answer to a management write touches the reply queue or the count of discarded replies. -/
theorem State.answer_frame (a : Access) (status : Status) (s : State) :
    s.answer a status = { s with
      replyQueue := (s.answer a status).replyQueue, discardedReplies := (s.answer a status).discardedReplies } := by
  unfold State.answer
  split
  · rw [State.placeReply_frame]
  · rfl

end Sys2Proof.Machine
end

