-- ==== Sys2Proof/Laws/Windows.lean ====
section
/-! SUPPORT. Which fields each piece of an aperture word shows, so that a whole word's fields are read off its pieces. -/
namespace Sys2Proof.Machine

/-- The bits of a field. -/
theorem getLsbD_field (x low width i : Nat) :
    (field x low width).getLsbD i =
      (decide (i < 32) && (decide (low ≤ i) && decide (i < low + width) && x.testBit (i - low))) := by
  unfold field
  rw [BitVec.getLsbD_ofNat, Nat.testBit_shiftLeft, Nat.testBit_mod_two_pow]
  by_cases h : low ≤ i
  · have : (i - low < width) = (i < low + width) := by
      apply propext
      omega
    simp [h, this]
  · simp [h]

/-- The zero word shows no field. -/
theorem showsFields_zero : showsFields 0#32 [] := by
  intro i
  simp

/-- A field shows itself. -/
theorem showsFields_field (x low width : Nat) : showsFields (field x low width) [(low, width, x)] := by
  intro i
  rw [getLsbD_field]
  simp [i.isLt]

/-- A flag shows a field of one bit. -/
theorem showsFields_flag (b : Bool) (low : Nat) : showsFields (flag b low) [(low, 1, b.toNat)] := by
  cases b
  · intro i
    simp [flag]
  · exact showsFields_field 1 low 1

/-- A whole word shows one field of 32 bits. -/
theorem showsFields_word (w : Word) : showsFields w [(0, 32, w.toNat)] := by
  intro i
  simp [BitVec.getLsbD]

/-- Two pieces together show the fields of both. -/
theorem showsFields_or {a b : Word} {l m : List (Nat × Nat × Nat)} (ha : showsFields a l) (hb : showsFields b m) :
    showsFields (a ||| b) (l ++ m) := by
  intro i
  rw [BitVec.getLsbD_or, ha i, hb i, List.any_append]

/-- The order in which fields are listed does not matter. -/
theorem showsFields_perm {w : Word} {l m : List (Nat × Nat × Nat)} (h : l.Perm m) (hl : showsFields w l) :
    showsFields w m := by
  intro i
  rw [hl i]
  exact h.any_eq

/-- A field that may be absent shows its value, 0 while it is absent, and its present bit. -/
theorem showsFields_optionField (x : Option Nat) (low width present : Nat) :
    showsFields (optionField x low width present) [(low, width, x.getD 0), (present, 1, x.isSome.toNat)] := by
  cases x with
  | none =>
    intro i
    simp [optionField]
  | some n => exact showsFields_or (showsFields_field n low width) (showsFields_flag true present)

end Sys2Proof.Machine
end

