-- ==== Sys2Proof/WellFormed.lean ====
section
/-! DEFINITION. Which commands are the step their row names: a BAD_SYMBOL is bad, an UNKNOWN_COMMAND's code is
unknown, a READ_ONLY_WRITE's word is not writable. Every other command is well formed by its type. -/
namespace Sys2Proof

/-- A command whose operands are those of the step it names (R143, R133, R128). -/
def Instr.wellFormed : Instr → Bool
  | .badSymbol _ kind value check => Machine.symbolIsBad kind value check
  | .unknownCommand _ code _ => (Machine.commandOf code).isNone
  | .readOnlyWrite _ word _ => !Machine.apertureWritable (Machine.apertureWord (4 * word.toNat))
  | .resetAssert => true
  | .resetRelease => true
  | .imageWord _ _ _ _ => true
  | .validationEnd => true
  | .linkUnitReceive _ _ => true
  | .initReceive _ _ => true
  | .ackReceive _ _ => true
  | .retryReceive _ _ => true
  | .creditReceive _ _ => true
  | .resetReceive _ _ => true
  | .initResend _ => true
  | .acknowledgementTimer _ => true
  | .resend _ => true
  | .ackSend _ => true
  | .creditSend _ => true
  | .replySend => true
  | .grant => true
  | .admissionEvaluate => true
  | .completionTake => true
  | .tagExpiry _ => true
  | .requesterExpiry _ => true
  | .reclaim _ => true
  | .closingAnswer => true
  | .channelTagTake _ => true
  | .noticePlace => true
  | .commit _ _ => true
  | .cancel _ _ => true
  | .revert _ _ => true
  | .quiesce _ _ => true
  | .resume _ _ => true
  | .digestClear _ _ => true
  | .fence _ _ => true
  | .unfence _ _ => true
  | .logPop _ _ => true
  | .logClear _ _ => true
  | .noticeArm _ _ => true
  | .noticeAck _ _ => true
  | .channelStart _ _ => true
  | .channelStop _ _ => true
  | .channelResume _ _ => true
  | .linkRetrain _ _ => true
  | .countersClear _ _ => true
  | .restart _ _ => true
  | .stagingWrite _ _ _ _ => true
  | .requesterRecordWrite _ _ _ => true
  | .replyTimeoutWrite _ _ => true
  | .noticeConfigurationWrite _ _ => true
  | .channelConfigurationWrite _ _ _ _ => true

end Sys2Proof
end

