-- ==== Sys2Proof/Tests/Slice0.lean ====
section
/-! SUPPORT. Tests: the well-formedness smoke test, known values of the formats, and for each statement of
Certificates/Slice0 that has hypotheses a concrete state and operands that meet them, clause by clause. -/
namespace Sys2Proof.Tests

open Sys2Proof Sys2Proof.Machine

/-! ### The well-formedness checks -/

theorem test_illFormedCommandsAreRefused :
    Instr.wellFormed (.badSymbol .u 2#8 5#8 (crc8 2#8 5#8)) = false ∧
    Instr.wellFormed (.unknownCommand { requester := 0, tag := 0#8, confirmed := true } 0x10#8 0#16) = false ∧
    Instr.wellFormed (.readOnlyWrite { requester := 0, tag := 0#8, confirmed := true } 0x0400#14 0#32) = false := by
  decide +kernel

theorem test_wellFormedCommandsPass :
    Instr.wellFormed (.badSymbol .u 2#8 5#8 (crc8 2#8 5#8 + 1#8)) = true ∧
    Instr.wellFormed (.unknownCommand { requester := 0, tag := 0#8, confirmed := true } 0x13#8 0#16) = true ∧
    Instr.wellFormed (.readOnlyWrite { requester := 0, tag := 0#8, confirmed := true } 0x0001#14 0#32) = true := by
  decide +kernel

/-! ### Known values of the formats -/

/-- The check values of R171 over the ASCII digits 1 to 9. -/
theorem test_checkCodesOfTheNineDigits :
    crc16 [0x31#8, 0x32#8, 0x33#8, 0x34#8, 0x35#8, 0x36#8, 0x37#8, 0x38#8, 0x39#8] = 0x29B1#16 ∧
    (([0x31#8, 0x32#8, 0x33#8, 0x34#8, 0x35#8, 0x36#8, 0x37#8, 0x38#8, 0x39#8].flatMap byteBits).foldl crc8Bit
      0x00#8) = 0xF4#8 := by
  decide +kernel

/-- The bytes of every command code of Table 12-2, and one that is none of them. -/
theorem test_commandCodesOfTable12_2 :
    commandOf 0x01#8 = some .commit ∧ commandOf 0x12#8 = some .digestClear ∧ commandOf 0x39#8 = some .noticeAck ∧
    commandOf 0x7F#8 = some .restart ∧ commandOf 0x00#8 = none ∧ commandOf 0x04#8 = none := by
  decide +kernel

/-! ### Small states -/

/-- A port in UP, all credit granted both ways. -/
def openPort : LinkPort :=
  { LinkPort.reset with
    state := .up, advertised := 16, peerCredit := 16, peerCeiling := 16, allowance := 16 }

/-- An entry of four pages from page 10000h on, read and written by requester 3, its digest on. -/
def entry : RegionEntry :=
  { valid := true, upstreamBase := 0x10000#24, pageCount := 4#25, downstreamBase := 0x100#24, readSet := 0x0008#16,
    writeSet := 0x0008#16, mode := .posted, digest := true }

/-- A gate in NORMAL with both ports UP, one region, and requester 0 the manager. -/
def gate : State :=
  { State.reset with
    resetHeld := false
    mode := .normal
    active := State.reset.active.set 0 entry
    staging := State.reset.staging.set 0 entry
    requesters := State.reset.requesters.set 0 { RequesterRecord.reset with right := true }
    uPort := openPort
    dPort := openPort }

/-- The gate while its image is read. -/
def loading : State :=
  { State.reset with
    resetHeld := false
    loader := some []
    serialSelect := true
    uPort := State.reset.uPort.fresh 0 0#32
    dPort := State.reset.dPort.fresh 16 0#32 }

/-- The management access of requester 0. -/
def manager : Access := { requester := 0, tag := 1#8, confirmed := true }

/-- A request packet of requester `q`, every lane on. -/
def request (kind : RequestKind) (q : Fin 16) (address n : Nat) (data : List Word) : List Word :=
  writeRequest kind q 7 (BitVec.ofNat 36 address) n 0xF#4 (if n = 1 then 0x0#4 else 0xF#4) data

/-- A completion packet for a tag. -/
def completion (tag code : Nat) (data : List Word) : List Word :=
  (field 1 0 2 ||| field tag 9 8 ||| field code 17 4) :: data

/-- A state with one packet in the U port inbound buffer. -/
def heardU (packet : List Word) (s : State) : State :=
  { s with uPort := { s.uPort with inbound := [packet], allowance := s.uPort.allowance - 1 } }

/-- A state with one packet in the D port inbound buffer. -/
def heardD (packet : List Word) (s : State) : State :=
  { s with dPort := { s.dPort with inbound := [packet], allowance := s.dPort.allowance - 1 } }

/-- A state with `n` replies queued. -/
def queued (n : Nat) (s : State) : State := { s with replyQueue := List.replicate n (.notice 0 0#6 0#32) }

/-- A state with the U port still in INIT. -/
def deaf (s : State) : State := { s with uPort := { s.uPort with state := .init } }

/-- A tag record in the named state with a deadline of 0. -/
def tagIn (state : TagState) (owner : TagOwner) : TagRecord :=
  { TagRecord.reset with state := state, owner := owner, ownerRequester := 3, deadline := some 0#32 }

/-- The gate with tag 5 in the named state. -/
def withTag (state : TagState) (owner : TagOwner) : State := { gate with tags := gate.tags.set 5 (tagIn state owner) }

/-- The gate with a changed channel 0. -/
def withChannel (ch : Channel) : State := { gate with channels := gate.channels.set 0 ch }

/-- A COPY, the last of its chain, of 20 words. -/
def copy : Descriptor :=
  { w0 := 0x00000100#32, w1 := 20#32, w2 := 0x04000000#32, w3 := 0#32, w4 := 0x04000400#32, w5 := 0#32, w6 := 0#32,
    w7 := 0#32 }

/-- Channel 0 of requester 3 in RUN with that COPY. -/
def running : Channel :=
  { Channel.reset with owner := 3, state := .run, descriptor := some copy, wordsRemaining := 20 }

/-- A posted request of requester 3 at index 0. -/
def posted : IssueEntry :=
  { kind := .pw, requester := 3, tag := none, address := 0x100000#36, wordCount := 1, firstEnables := 0xF#4,
    lastEnables := 0x0#4, data := [5#32], index := 0, generation := 0#8 }

/-- A region status record. -/
def status (runState : RunState) (inFlight : Nat) : RegionStatus := { runState := runState, inFlight := inFlight }

/-- The gate with a changed status record of index 0. -/
def withStatus (runState : RunState) (inFlight : Nat) : State :=
  { gate with regions := gate.regions.set 0 (status runState inFlight) }

/-- The state that a command leaves. -/
def after (c : Instr) (s : State) : State :=
  match exec c s with
  | .next t => t
  | .fault _ => s
  | .refused _ => s

/-- Whether the step answers a next state. -/
def stepAnswers (s : State) : Bool :=
  match step s with
  | .next _ => true
  | .fault _ => false
  | .refused _ => false

theorem exists_next_of_stepAnswers {s : State} (h : stepAnswers s = true) : ∃ t, step s = .next t := by
  unfold stepAnswers at h
  split at h
  · exact ⟨_, by assumption⟩
  · cases h
  · cases h

/-- The fetch read that channel 0 has formed with tag 1. -/
def fetchRead : IssueEntry :=
  { posted with kind := .rd, tag := some 1, wordCount := 8, lastEnables := 0xF#4, data := [] }

/-- The tags of `busyGate`: tag 0 answers requester 3, tag 1 is channel 0's. -/
def busyTags : Vector TagRecord 48 :=
  (gate.tags.set 0 { TagRecord.reset with
    state := .waiting, ownerRequester := 3, upstreamTag := 7#8, wordCount := 2, deadline := some 2000#32 }).set 1
    { TagRecord.reset with state := .queued, owner := .channel, ownerRequester := 3, wordCount := 8 }

/-- A gate at work: an RD waits for its answer, a PW is queued, channel 0 has formed its fetch, a fault is logged,
index 0 is QUIESCING, a commit is in VALIDATE, and an admission evaluation is next. -/
def busyGate : State :=
  { gate with
    tags := busyTags
    freeTags := gate.freeTags.drop 2
    requesters := gate.requesters.set 3 { RequesterRecord.reset with outstanding := 1, admitted := 2#32 }
    regions := gate.regions.set 0 (status .quiescing 3)
    currentTotal := 3
    issueQueue := [posted]
    channels := gate.channels.set 0
      { Channel.reset with
        owner := 3, firstDescriptor := 0x10000000#36, currentAddress := 0x10000000#36, state := .fetch
        formed := some { entry := fetchRead, copyWrite := false }
        tagsHeld := [1]
        readList := [{ tag := some 1, purpose := .fetch, offset := 0, wordCount := 8 }] }
    faultLog := [{ report := { kind := .noRegion, port := some .u, requester := some 3 }, firstTime := 0#32,
                   repeatCount := 0 }]
    command := { gate.command with busy := true, phase := some .validate, lastResult := none }
    uPort := { openPort with inbound := [request .pw 3 0x10000080 1 [6#32]], allowance := 15 }
    dPort := { openPort with
      nextSeq := 1#7, peerCredit := 15, replayStore := [wrapUnit 0#7 (request .rd 3 0x100040 2 [])]
      ackTimer := some 64#32 }
    pending := [.admissionEvaluate] }

/-- An image of one region: signature, format, count, 16 requesters, timeout, notices, the entry, the check word. -/
def imageBody : List Word :=
  [0x485A3640#32, 1#32, 1#32, 0x00000401#32] ++ List.replicate 15 0x00000400#32 ++
    [2000#32, 0x00000380#32, 0x80010000#32, 4#32, 0x100#32, 0x00080008#32]

/-- The check word of `imageBody`. -/
def imageCheck : Word := 0#32 - imageBody.foldl (· + ·) 0#32

/-- The gate with some of the image read. -/
def readSoFar (words : List Word) : State := { loading with loader := some words }

/-! ### Witnesses: the step and the laws -/

theorem witness_StepRunsTheFrontCommand : busyGate.pending = .admissionEvaluate :: [] := by decide +kernel

theorem witness_EmptyQueueLetsOneMicrosecondPass :
    (State.reset.pending = [] ∧ State.reset.resetHeld = true) ∧
    ((withTag .waiting .gate).pending = [] ∧ (withTag .waiting .gate).resetHeld = false ∧
      ((withTag .waiting .gate).tags[(5 : Fin 48)]).deadline = some 0#32 ∧
      ((withTag .waiting .gate).tags[(6 : Fin 48)]).deadline = none) := by
  decide +kernel

theorem witness_LogQueueCommandAndRunStateLawsKept :
    (busyGate.logLaw ∧ busyGate.queueLaw ∧ busyGate.commandLaw ∧ busyGate.quiesceLaw) ∧
      ∃ t, step busyGate = .next t := by
  refine ⟨?_, exists_next_of_stepAnswers (by decide +kernel)⟩
  unfold State.logLaw State.queueLaw State.commandLaw State.quiesceLaw
  decide +kernel

theorem witness_PortLawKept : busyGate.portLaw ∧ ∃ t, step busyGate = .next t := by
  refine ⟨?_, exists_next_of_stepAnswers (by decide +kernel)⟩
  unfold State.portLaw LinkPort.law LinkPort.cleared LinkPort.storeLaw LinkPort.replayLaw LinkPort.creditLaw
    LinkPort.withholdLaw
  repeat' apply And.intro
  all_goals decide +kernel

theorem witness_BankLawKept : busyGate.commandLaw ∧ busyGate.bankLaw ∧ ∃ t, step busyGate = .next t := by
  refine ⟨?_, ?_, exists_next_of_stepAnswers (by decide +kernel)⟩
  · unfold State.commandLaw
    decide +kernel
  · unfold State.bankLaw bankLawful
    exact ⟨by decide +kernel, by decide +kernel⟩

theorem busyGate_tagLaw : busyGate.tagLaw := by
  unfold State.tagLaw
  decide +kernel

theorem busyGate_channelLaw : busyGate.channelLaw := by
  unfold State.channelLaw Channel.heldLaw Channel.descriptorLaw
  decide +kernel

theorem witness_TagLawKept : busyGate.tagLaw ∧ ∃ t, step busyGate = .next t :=
  ⟨busyGate_tagLaw, exists_next_of_stepAnswers (by decide +kernel)⟩

theorem witness_ChannelLawKept : busyGate.channelLaw ∧ ∃ t, step busyGate = .next t :=
  ⟨busyGate_channelLaw, exists_next_of_stepAnswers (by decide +kernel)⟩

theorem witness_TagUseLawKept :
    busyGate.tagLaw ∧ busyGate.channelLaw ∧ busyGate.tagUseLaw ∧ ∃ t, step busyGate = .next t := by
  refine ⟨busyGate_tagLaw, busyGate_channelLaw, ?_, exists_next_of_stepAnswers (by decide +kernel)⟩
  unfold State.tagUseLaw State.formedTag State.queuedTags
  decide +kernel

theorem witness_AccountLawKept :
    busyGate.commandLaw ∧ busyGate.tagLaw ∧ busyGate.channelLaw ∧ busyGate.accountLaw ∧
      ∃ t, step busyGate = .next t := by
  refine ⟨?_, busyGate_tagLaw, busyGate_channelLaw, ?_, exists_next_of_stepAnswers (by decide +kernel)⟩
  · unfold State.commandLaw
    decide +kernel
  · have items : busyGate.items = [(0, 0#8), (0, 0#8), (0, 0#8)] := by decide +kernel
    unfold State.accountLaw
    rw [items]
    refine ⟨by decide +kernel, ?_, by decide +kernel, by decide +kernel⟩
    intro i h
    have zero : i = (0, 0#8) := by simpa using h
    rw [zero]
    decide +kernel

/-- The gate while its image commit runs. -/
def imageCommit : State :=
  { after (.imageWord (imageCheck.extractLsb' 0 8) (imageCheck.extractLsb' 8 8) (imageCheck.extractLsb' 16 8)
      (imageCheck.extractLsb' 24 8)) (readSoFar imageBody) with pending := [.validationEnd] }

theorem witness_OutstandingLawKept :
    busyGate.tagLaw ∧ busyGate.loadingLaw ∧ busyGate.outstandingLaw ∧ ∃ t, step busyGate = .next t := by
  refine ⟨busyGate_tagLaw, ?_, ?_, exists_next_of_stepAnswers (by decide +kernel)⟩
  · unfold State.loadingLaw
    decide +kernel
  · unfold State.outstandingLaw State.tagsOwed
    decide +kernel

theorem witness_LoadingAndManagerLawsKept :
    (imageCommit.portLaw ∧ imageCommit.commandLaw ∧ imageCommit.channelLaw ∧ imageCommit.loadingLaw ∧
      imageCommit.managerLaw) ∧ imageCommit.mode = .loading ∧ ∃ t, step imageCommit = .next t := by
  refine ⟨?_, by decide +kernel, exists_next_of_stepAnswers (by decide +kernel)⟩
  unfold State.portLaw LinkPort.law LinkPort.cleared LinkPort.storeLaw LinkPort.replayLaw LinkPort.creditLaw
    LinkPort.withholdLaw State.commandLaw State.channelLaw Channel.heldLaw Channel.descriptorLaw State.loadingLaw
    State.managerLaw State.managed
  repeat' apply And.intro
  all_goals decide +kernel

/-! ### A few effects -/

/-- A good image, then the end of its validation: NORMAL, generation 1, the entry active, the credit granted. -/
theorem test_imageLoadsAndCommits :
    let s := after .validationEnd imageCommit
    s.mode = .normal ∧ s.generation = 1#8 ∧ s.active[(0 : Fin 64)] = { entry with digest := false } ∧
      s.pendingCauses = 0x02#6 ∧ (s.requesters[(0 : Fin 16)]).right = true ∧ (s.requesters[(1 : Fin 16)]).right = false ∧
      s.replyTimeout = 2000#16 ∧ s.noticeRequester = some 0 ∧ s.enabledCauses = 0x03#6 := by
  decide +kernel

/-- An RD admitted, granted and answered: its address translated, its tag taken and returned, its counts back at 0. -/
theorem test_readIsForwardedAndAnswered :
    let admitted := after .admissionEvaluate (heardU (request .rd 3 0x10000040 2 []) gate)
    let sent := after .grant admitted
    let answered := after .completionTake (heardD (completion 0 0 [1#32, 2#32]) sent)
    (admitted.issueQueue.map (fun e => e.address)) = [0x100040#36] ∧ admitted.freeTags.length = 47 ∧
      (admitted.regions[(0 : Fin 64)]).inFlight = 1 ∧ (sent.tags[(0 : Fin 48)]).deadline = some 2000#32 ∧
      answered.replyQueue = [.completion 3 7#8 .ok [1#32, 2#32]] ∧ answered.freeTags.getLast? = some 0 ∧
      (answered.regions[(0 : Fin 64)]).inFlight = 0 ∧ (answered.requesters[(3 : Fin 16)]).outstanding = 0 := by
  decide +kernel

/-! ### Witnesses: the region table -/

/-- The entry's first page, its last, and the page after it. -/
theorem witness_LookupYieldsTheOneEntry :
    bankLawful gate.active ∧ (gate.active[(0 : Fin 64)]).valid = true ∧
    lookup gate.active 0x10000 = some 0 ∧ lookup gate.active 0x10003 = some 0 ∧ lookup gate.active 0x10004 = none ∧
    lookup gate.active 0xFFFF = none := by
  unfold bankLawful
  decide +kernel

/-- Miss below and above the entry; span at its last word; the two sets; the three run states. -/
theorem witness_RegionCheckOrder :
    bankLawful gate.active ∧ lookup gate.active (0x10004000 / 4096) = none ∧
    gate.regionCheck 0xFFFFFFC 1 .rd 3 = .miss ∧
    gate.regionCheck 0x10003FFC 2 .rd 3 = .span 0 ∧ gate.regionCheck 0x10003FFC 2 .rd 4 = .span 0 ∧
    gate.regionCheck 0x10003FFC 1 .rd 4 = .permission 0 ∧ gate.regionCheck 0x10000000 1 .cw 4 = .permission 0 ∧
    (withStatus .quiescing 1).regionCheck 0x10000000 1 .rd 3 = .paused 0 ∧
    (withStatus .quiesced 0).regionCheck 0x10000000 1 .rd 3 = .paused 0 ∧
    gate.regionCheck 0x10003FFC 1 .pw 3 =
      .pass { index := 0, address := 0x103FFC#36, kind := .pw, generation := 0#8 } := by
  unfold bankLawful
  decide +kernel

/-- A bank with a second entry. -/
def bankWith (e : RegionEntry) : Bank := gate.active.set 2 e

/-- Each cause, at the bound that makes it, and the greatest lawful ranges. -/
theorem witness_ValidationFindsTheFirstFailure :
    validate gate.active = none ∧
    validate (bankWith { entry with pageCount := 0#25 }) = some (2, .countZero, none) ∧
    validate (bankWith { entry with upstreamBase := 0xFFFFFD#24 }) = some (2, .upWrap, none) ∧
    validate (bankWith { entry with upstreamBase := 0x20000#24, downstreamBase := 0xFFFFFD#24 }) =
      some (2, .downWrap, none) ∧
    validate (bankWith { entry with upstreamBase := 0xFFFFEE#24 }) = some (2, .aperture, none) ∧
    validate (bankWith { entry with upstreamBase := 0xFFFD#24 }) = some (2, .overlap, some 0) ∧
    validate (bankWith { entry with upstreamBase := 0xFFFFEC#24, downstreamBase := 0xFFFFFC#24 }) = none := by
  decide +kernel

theorem witness_SwapMakesStagingActive : gate.mode ≠ .loading ∧ loading.mode = .loading := by decide +kernel

/-- In DRAIN and not, with the last item and with one more. -/
theorem witness_EndOfAnItemLowersItsCounts :
    let draining : State := { withStatus .quiescing 1 with
      previousTotal := 1, command := { gate.command with busy := true, phase := some .drain, lastResult := none } }
    (1 ≤ (draining.regions[(0 : Fin 64)]).inFlight ∧ draining.command.phase = some .drain ∧
      draining.previousTotal - 1 = 0) ∧
    (1 ≤ ((withStatus .opened 2).regions[(0 : Fin 64)]).inFlight ∧
      (withStatus .opened 2).command.phase ≠ some .drain) := by
  decide +kernel

/-! ### Witnesses: the fault log -/

/-- A fault of requester 3. -/
def fault : FaultReport := { kind := .noRegion, port := some .u, requester := some 3 }

/-- A log of `n` records that coalesce with nothing of requester 3. -/
def logged (n : Nat) : State :=
  { gate with
    faultLog := List.replicate n { report := { kind := .image }, firstTime := 0#32, repeatCount := 65535 } }

theorem witness_FaultIsCoalescedAppendedOrLost :
    (∃ rest newest, (gate.takeFault fault).faultLog = rest ++ [newest] ∧ fault.kind = newest.report.kind ∧
      fault.requester = newest.report.requester ∧ fault.region = newest.report.region) ∧
    (∀ n ∈ [0, 31, 32], ∀ rest newest, (logged n).faultLog = rest ++ [newest] → fault.kind ≠ newest.report.kind) ∧
    (logged 31).faultLog.length < 32 ∧ 32 ≤ (logged 32).faultLog.length := by
  refine ⟨⟨[], _, rfl, by decide +kernel⟩, ?_, by decide +kernel, by decide +kernel⟩
  intro n _ rest newest h
  have hm : newest ∈ (logged n).faultLog := by
    rw [h]
    simp
  rw [List.eq_of_mem_replicate hm]
  decide +kernel

/-! ### Witnesses: reset and loading -/

theorem witness_ResetPinHoldsAndReleases : (Instr.grant ≠ .resetRelease) ∧ State.reset.resetHeld = true := by
  decide +kernel

/-- The four kept words at their bounds, each failing check, and a whole image with and without a manager. -/
theorem witness_ImageWordIsGatheredOrEndsTheLoad :
    ((readSoFar []).loader = some [] ∧ ([] ++ [0x485A3640#32]).length = 1) ∧
    ((64#32).toNat ≤ 64 ∧ 64 < (65#32).toNat) ∧
    (4 ≤ (imageBody.take 4).length ∧ (imageBody.take 4).length < 22 + 4 * 1) ∧
    ((readSoFar imageBody).loader = some imageBody ∧
      22 + 4 * ((imageBody ++ [imageCheck]).getD 2 0#32).toNat ≤ (imageBody ++ [imageCheck]).length ∧
      (imageBody ++ [0#32]).foldl (· + ·) 0#32 ≠ 0#32) ∧
    (let bare := (imageBody.set 3 0x00000400#32)
     22 + 4 * ((bare ++ [imageCheck + 1#32]).getD 2 0#32).toNat ≤ (bare ++ [imageCheck + 1#32]).length ∧
      (bare ++ [imageCheck + 1#32]).foldl (· + ·) 0#32 = 0#32 ∧
      ¬∃ q : Fin 16, ((bare ++ [imageCheck + 1#32]).getD (3 + q.val) 0#32).getLsbD 0 = true) := by
  decide +kernel

theorem witness_GoodImageFillsTheTables :
    let b (low : Nat) : Byte := imageCheck.extractLsb' low 8
    let w : Word := b 24 ++ b 16 ++ b 8 ++ b 0
    let read := imageBody ++ [w]
    (readSoFar imageBody).loader = some imageBody ∧ 4 ≤ read.length ∧ 22 + 4 * (read.getD 2 0#32).toNat ≤ read.length ∧
      read.foldl (· + ·) 0#32 = 0#32 ∧ ∃ q : Fin 16, (read.getD (3 + q.val) 0#32).getLsbD 0 = true := by
  decide +kernel

/-- The gate with a commit in VALIDATE of a staging bank. -/
def validating (bank : Bank) (total : Nat) (s : State) : State :=
  { s with
    staging := bank, previousTotal := total
    command := { s.command with busy := true, phase := some .validate, lastResult := none } }

theorem witness_ValidationEndDecidesTheCommit :
    let bad := bankWith { entry with pageCount := 0#25 }
    ((validating bad 0 gate).command.busy = true ∧ (validating bad 0 gate).command.phase = some .validate ∧
      validate (validating bad 0 gate).staging = some (2, .countZero, none) ∧ gate.mode ≠ .loading) ∧
    ((validating bad 0 imageCommit).mode = .loading ∧ (validating bad 0 imageCommit).loader = none ∧
      (validating bad 0 imageCommit).serialSelect = false) ∧
    (validate (validating gate.active 1 gate).staging = none ∧ (validating gate.active 1 gate).previousTotal ≠ 0) ∧
    (validating gate.active 0 gate).previousTotal = 0 := by
  decide +kernel

/-! ### Witnesses: the link -/

/-- A unit of each class at the bounds of its window (R150, R151). -/
theorem witness_LinkUnitIsClassed :
    let bytes (n : BitVec 7) := unitBytes (wrapUnit n [0#32])
    loading.uPort.state = .init ∧ (gate.port .u).state = .up ∧ readUnit [0#8] = none ∧
    readUnit (bytes 0#7) = some ((gate.port .u).expectedSeq, [0#32]) ∧ 1 ≤ (gate.port .u).allowance ∧
    (({ gate with uPort := { openPort with allowance := 0 } } : State).port .u).allowance = 0 ∧
    readUnit (bytes 1#7) = some ((gate.port .u).expectedSeq + BitVec.ofNat 7 1, [0#32]) ∧
    readUnit (bytes 63#7) = some ((gate.port .u).expectedSeq + BitVec.ofNat 7 63, [0#32]) ∧
    readUnit (bytes 64#7) = some ((gate.port .u).expectedSeq - BitVec.ofNat 7 64, [0#32]) ∧
    readUnit (bytes 127#7) = some ((gate.port .u).expectedSeq - BitVec.ofNat 7 1, [0#32]) := by
  decide +kernel

theorem witness_InitBringsThePortUp :
    ((loading.port .d).state = .init ∧ (loading.port .u).state = .init ∧ loading.mode = .loading) ∧
    (let late : State := { loading with mode := .safe }
     (late.port .u).state = .init ∧ late.mode ≠ .loading ∧ (late.port .u).withholds = true) ∧
    ((gate.port .u).state = .up ∧ (0x7F#8).getLsbD 7 = false ∧ (0x80#8).getLsbD 7 = true) := by
  decide +kernel

/-- A port that holds two units, numbers 0 and 1, the timer running. -/
def storing (replay : Option Nat) (retryRun : Nat) : State :=
  { gate with
    dPort := { openPort with
      nextSeq := 2#7, replay := replay, retryRun := retryRun
      replayStore := [wrapUnit 0#7 [0#32], wrapUnit 1#7 [1#32]]
      ackTimer := if replay = none then some 0#32 else none } }

theorem witness_AckCreditAndBadSymbols :
    (((storing none 0).port .d).state = .up ∧
      ((storing none 0).port .d).replayStore = [wrapUnit 0#7 [0#32]] ++ wrapUnit 1#7 [1#32] :: [] ∧
      (wrapUnit 1#7 [1#32]).seq = (1#8).extractLsb' 0 7 ∧
      ∀ v ∈ [wrapUnit 0#7 [0#32]], v.seq ≠ (1#8).extractLsb' 0 7) ∧
    (∀ u ∈ ((storing none 0).port .d).replayStore, u.seq ≠ (2#8).extractLsb' 0 7) ∧
    (loading.port .d).state = .init ∧ (loading.port .d).state ≠ .down ∧ (0#8) ≠ crc8 2#8 0#8 ∧ 6 ≤ (6#8).toNat := by
  decide +kernel

theorem witness_RetryAcknowledgesAndReplays :
    let s := storing none 3
    let full := storing none 4
    (s.port .d).state = .up ∧ (s.port .d).retryRun < 4 ∧ 4 ≤ (full.port .d).retryRun ∧
    ((s.port .d).replayStore = wrapUnit 0#7 [0#32] :: [wrapUnit 1#7 [1#32]] ∧ (wrapUnit 0#7 [0#32]).seq = 0#7 ∧
      ∀ v ∈ (s.port .d).replayStore, v.seq ≠ 0#7 - 1#7) ∧
    ((s.port .d).replayStore = [] ++ wrapUnit 0#7 [0#32] :: wrapUnit 1#7 [1#32] :: [] ∧
      (wrapUnit 0#7 [0#32]).seq = 1#7 - 1#7) ∧
    ((s.port .d).replayStore = [wrapUnit 0#7 [0#32]] ++ [wrapUnit 1#7 [1#32]] ∧
      (wrapUnit 1#7 [1#32]).seq = 2#7 - 1#7 ∧ ∀ x ∈ [wrapUnit 0#7 [0#32]], x.seq ≠ 2#7 - 1#7) ∧
    (∀ u ∈ (s.port .d).replayStore, u.seq ≠ 9#7 ∧ u.seq ≠ 9#7 - 1#7) := by
  decide +kernel

theorem witness_TimerBeginsAReplayThatResends :
    (((storing none 3).port .d).state = .up ∧ ((storing none 3).port .d).ackTimer = some 0#32 ∧
      ((storing none 3).timeBase - 0#32).toNat < 2 ^ 31 ∧ ((storing none 3).port .d).replayStore ≠ [] ∧
      ((storing none 3).port .d).replay = none ∧ ((storing none 3).port .d).retryRun < 4) ∧
    4 ≤ ((storing none 4).port .d).retryRun ∧
    (let late : State := { storing none 3 with timeBase := 0xFFFFFFFF#32 }
     (late.port .d).ackTimer = some 0#32 ∧ 2 ^ 31 ≤ (late.timeBase - 0#32).toNat) ∧
    ((gate.port .d).ackTimer = none ∧ (gate.port .d).replayStore = [] ∧ (loading.port .d).state ≠ .up ∧
      (gate.port .d).replay = none) ∧
    (((storing (some 0) 1).port .d).replay = some 0 ∧
      ((storing (some 0) 1).port .d).replayStore[0]? = some (wrapUnit 0#7 [0#32])) ∧
    (((storing (some 1) 1).port .d).replay = some 1 ∧
      ((storing (some 1) 1).port .d).replayStore[1]? = some (wrapUnit 1#7 [1#32])) := by
  decide +kernel

theorem witness_PortResetClearsAndRestarts :
    loading.uPort.state ≠ .up ∧ gate.uPort.state = .up ∧ loading.dPort.state ≠ .up ∧
    (gate.dPort.state = .up ∧ (gate.mode ≠ .loading ∨ gate.command.phase ≠ some .drain)) ∧
    (gate.port .u).state ≠ .down := by
  decide +kernel

theorem witness_DPortLossSettlesEverything :
    (busyGate.mode ≠ .loading ∨ busyGate.command.phase ≠ some .drain) ∧
    (busyGate.regions[(0 : Fin 64)]).runState = .quiescing := by
  decide +kernel

theorem witness_OwedSymbolsAndInitAreSent :
    let s : State := { gate with uPort := { openPort with ackOwed := true, owedCredit := 17 } }
    ((s.port .u).state = .up ∧ (s.port .u).ackOwed = true ∧ 1 ≤ (s.port .u).owedCredit) ∧
    (let late : State := { loading with timeBase := 10#32 }
     (late.port .d).state = .init ∧ (late.port .d).initDue = some 10#32 ∧ (late.timeBase - 10#32).toNat < 2 ^ 31) ∧
    (let early : State := { loading with timeBase := 9#32 }
     (early.port .d).initDue = some 10#32 ∧ 2 ^ 31 ≤ (early.timeBase - 10#32).toNat) ∧
    ((gate.port .u).state ≠ .init ∧ (gate.port .u).initDue = none ∧ (loading.port .u).state ≠ .up ∧
      (gate.port .u).ackOwed = false ∧ (gate.port .u).owedCredit = 0) := by
  decide +kernel

/-! ### Witnesses: issue, admission, completions and expiries -/

/-- Channel 0 with a formed RD that holds tag 5. -/
def offering : Channel :=
  { running with
    formed := some { entry := { posted with kind := .rd, tag := some 5, data := [] }, copyWrite := false }
    tagsHeld := [5]
    readList := [{ tag := some 5, purpose := .copy, offset := 0, wordCount := 1 }] }

theorem witness_GrantGoesInRotation :
    let queue : State := { gate with issueQueue := [posted] }
    let channel : State := { withChannel offering with tags := gate.tags.set 5 (tagIn .queued .channel) }
    (queue.dPort.ready ∧ (grantOrder queue.lastGranted).find? (fun p => (queue.offer p).isSome) = some .queue ∧
      queue.offer .queue = some posted ∧ ∀ g, posted.tag = some g → (queue.tags[g]).state = .queued) ∧
    ((grantOrder channel.lastGranted).find? (fun p => (channel.offer p).isSome) = some .channel0 ∧
      (channel.tags[(5 : Fin 48)]).state = .queued) ∧
    (grantOrder gate.lastGranted).find? (fun p => (gate.offer p).isSome) = none ∧
    (loading.dPort.state ≠ .up ∧ { openPort with peerCredit := 0 }.peerCredit = 0 ∧
      16 ≤ { openPort with replayStore := List.replicate 16 (wrapUnit 0#7 [0#32]) }.replayStore.length ∧
      ¬16 ≤ { openPort with replayStore := List.replicate 15 (wrapUnit 0#7 [0#32]) }.replayStore.length ∧
      (storing (some 1) 1).dPort.replay ≠ none) := by
  unfold LinkPort.ready
  decide +kernel

/-- A weighable packet: `admits` from its parts. -/
theorem admits_heardU {packet : List Word} (h : packetType packet = 0) (s : State) (hu : s.uPort.state = .up)
    (hw : s.admissionWait = none) : (heardU packet s).admits packet [] :=
  ⟨hu, rfl, h, by simp [heardU, hw]⟩

/-- One request for each test of R30, its neighbour passing. -/
theorem witness_MalformedRequestsAreRefused :
    (heardU (request .rd 3 0x10000000 17 []) gate).admits (request .rd 3 0x10000000 17 []) [] ∧
    wellFormedRequest (readRequest (request .rd 3 0x10000000 17 [])) = none ∧
    wellFormedRequest (readRequest (request .rd 3 0x10000000 0 [])) = none ∧
    (wellFormedRequest (readRequest (request .rd 3 0x10000000 16 []))).isSome = true ∧
    wellFormedRequest (readRequest (request .rd 3 0x10000000 1 [0#32])) = none ∧
    wellFormedRequest (readRequest (request .cw 3 0x10000000 2 [0#32])) = none ∧
    wellFormedRequest (readRequest (request .rd 3 0xFFFFFFFFC 2 [])) = none ∧
    (wellFormedRequest (readRequest (request .rd 3 0xFFFFFFFFC 1 []))).isSome = true ∧
    (queued 31 gate).replyQueue.length < 32 :=
  ⟨admits_heardU (by decide +kernel) gate rfl rfl, by decide +kernel⟩

/-- The requests of the refusals: the last traffic word, the first aperture word, and one request for each clause of
the region check. -/
theorem witness_RefusalsGoInOrder :
    let fenced := gate.setRequester 3 { RequesterRecord.reset with state := .fenced }
    let low := request .rd 3 0xFFFFEFFFC 1 []
    let high := request .rd 3 0xFFFFF0000 1 []
    ((heardU high gate).admits high [] ∧ gate.replyQueue.length < 32) ∧
    (fenced.requesters[(3 : Fin 16)]).state = .fenced ∧
    ((wellFormedRequest (readRequest low) = some (.rd, 0xFFFFEFFFC#36)) ∧
      (wellFormedRequest (readRequest high) = some (.rd, 0xFFFFF0000#36))) ∧
    ((gate.requesters[(3 : Fin 16)]).right = false ∧ (gate.requesters[(0 : Fin 16)]).right = true ∧
      (readRequest (request .rd 0 0xFFFFF0000 2 [])).wordCount ≠ 1) ∧
    ({ gate with dPort := LinkPort.reset } : State).dPort.state ≠ .up ∧
    gate.regionCheck (0xFFFFEFFFC#36).toNat 1 .rd 3 = .miss ∧
    gate.regionCheck (0x10003FFC#36).toNat 2 .rd 3 = .span 0 ∧
    gate.regionCheck (0x10000000#36).toNat 1 .rd 4 = .permission 0 ∧
    (withStatus .quiescing 1).regionCheck (0x10000000#36).toNat 1 .rd 3 = .paused 0 :=
  ⟨⟨admits_heardU (by decide +kernel) gate rfl rfl, by decide +kernel⟩, by decide +kernel⟩

/-- The gate whose requester 3 has reached its limit. -/
def atLimit : State := gate.setRequester 3 { RequesterRecord.reset with outstanding := 4 }

theorem witness_PassingRequestsAreForwardedOrRetried :
    let packet := request .rd 3 0x10000040 2 []
    let confirming : State := { gate with active := gate.active.set 0 { entry with mode := .confirm } }
    ((heardU packet atLimit).admits packet [] ∧ (heardU packet gate).admits packet []) ∧
    wellFormedRequest (readRequest packet) = some (.rd, 0x10000040#36) ∧
    gate.regionCheck (0x10000040#36).toNat 2 .rd 3 =
      .pass { index := 0, address := 0x100040#36, kind := .rd, generation := 0#8 } ∧
    gate.regionCheck (0x10000040#36).toNat 2 .pw 3 =
      .pass { index := 0, address := 0x100040#36, kind := .pw, generation := 0#8 } ∧
    confirming.regionCheck (0x10000040#36).toNat 2 .pw 3 =
      .pass { index := 0, address := 0x100040#36, kind := .cw, generation := 0#8 } ∧
    (atLimit.requesters[(3 : Fin 16)]).limit ≤ (atLimit.requesters[(3 : Fin 16)]).outstanding ∧
    (gate.requesters[(3 : Fin 16)]).outstanding < (gate.requesters[(3 : Fin 16)]).limit ∧
    gate.issueQueue.length < 32 ∧ gate.freeTags = 0 :: gate.freeTags.tail :=
  ⟨⟨admits_heardU (by decide +kernel) atLimit rfl rfl, admits_heardU (by decide +kernel) gate rfl rfl⟩,
    by decide +kernel⟩

theorem witness_AdmissionWaitsForResources :
    let packet := request .rd 3 0x10000040 2 []
    let missing := request .rd 3 0 1 []
    (packetType (completion 0 0 []) ≠ 0 ∧ (heardU (completion 0 0 []) gate).uPort.inbound = [completion 0 0 []] ∧
      ∀ w ∈ gate.admissionWait, w.again = true) ∧
    (∃ w : AdmissionWait, w.again = false ∧ ({ gate with
        admissionWait := some { reply := true, issue := false, tag := false, again := false } } :
          State).admissionWait = some w) ∧
    ((heardU missing (queued 32 gate)).admits missing [] ∧
      (∃ status fault, gate.verdict (readRequest missing) = .refuse status fault ∧
        (readRequest missing).kindCode ≠ 1) ∧ 32 ≤ (queued 32 gate).replyQueue.length) ∧
    (∃ kind p, ({ gate with freeTags := [] } : State).verdict (readRequest packet) = .forward kind p ∧ p.kind ≠ .pw) ∧
    32 ≤ ({ gate with issueQueue := List.replicate 32 posted } : State).issueQueue.length := by
  refine ⟨by decide +kernel, ⟨⟨true, false, false, false⟩, rfl, rfl⟩, ⟨admits_heardU (by decide +kernel) _ rfl rfl, ?_, by decide +kernel⟩, ?_,
    by decide +kernel⟩
  · exact ⟨.refused, admissionFault .noRegion (readRequest (request .rd 3 0 1 [])) none, by decide +kernel⟩
  · exact ⟨.rd, { index := 0, address := 0x100040#36, kind := .rd, generation := 0#8 }, by decide +kernel⟩

/-- The first word of the aperture and its last, read and written. -/
theorem witness_ManagementAccessIsHandedOver :
    let read := request .rd 0 0xFFFFFFFFC 1 []
    let written := request .cw 0 0xFFFFF0000 1 [0x00000038#32]
    ((heardU read gate).admits read [] ∧ (heardU written gate).admits written [] ∧ gate.mode ≠ .loading) ∧
    (wellFormedRequest (readRequest read) = some (.rd, 0xFFFFFFFFC#36)) ∧
    (wellFormedRequest (readRequest written) = some (.cw, 0xFFFFF0000#36)) ∧
    (readRequest read).wordCount = 1 ∧ (readRequest read).firstEnables = 0xF#4 ∧
    (gate.requesters[(readRequest read).requester]).state = .opened ∧
    (gate.requesters[(readRequest read).requester]).right = true ∧ gate.replyQueue.length < 32 ∧
    managementRow manager 0x0000#16 0x00000038#32 = .noticeArm manager 0#16 :=
  ⟨⟨admits_heardU (by decide +kernel) gate rfl rfl, admits_heardU (by decide +kernel) gate rfl rfl,
    by decide +kernel⟩, by decide +kernel⟩

theorem witness_CompletionIsMatchedByItsTag :
    let packet := completion 5 0 [1#32]
    let waiting := heardD packet (withTag .waiting .requester)
    (waiting.dPort.inbound = [packet] ∧ waiting.completionWait ≠ some false ∧ packetType packet = 1) ∧
    packetType (request .rd 3 0 1 []) ≠ 1 ∧ 48 ≤ (readCompletion (completion 48 0 [])).tag ∧
    (readCompletion (completion 47 0 [])).tag = (47 : Fin 48).val ∧ (readCompletion packet).tag = (5 : Fin 48).val ∧
    ((gate.tags[(5 : Fin 48)]).state ≠ .waiting ∧ (gate.tags[(5 : Fin 48)]).state ≠ .expired) ∧
    ((withTag .expired .gate).tags[(5 : Fin 48)]).state = .expired ∧
    (((withTag .waiting .gate).tags[(5 : Fin 48)]).state = .waiting ∧
      ((withTag .waiting .gate).tags[(5 : Fin 48)]).owner = .gate) ∧
    ((readCompletion packet).statusCode = 0 ∧ (readCompletion packet).data.length = 1) ∧
    (readCompletion (completion 5 1 [])).statusCode ≠ 0 ∧
    (waiting.replyFits ∧ ¬(queued 32 waiting).replyFits ∧ (deaf (queued 32 waiting)).replyFits) := by
  unfold State.replyFits
  decide +kernel

/-- Channel 0 in the named state, tag 5 held for a read of one word. -/
def holding (state : ChannelState) (purpose : ReadPurpose) : Channel :=
  { running with
    state := state, descriptor := if state = .fetch then none else some copy, tagsHeld := [5]
    readList := [{ tag := some 5, purpose := purpose, offset := 0, wordCount := 1 }] }

/-- The gate with that channel and its tag WAITING. -/
def answered (ch : Channel) : State :=
  heardD (completion 5 0 [1#32]) { withTag .waiting .channel with channels := gate.channels.set 0 ch }

theorem witness_CompletionIsHandedToItsChannel :
    let s := answered (holding .run .copy)
    (s.dPort.inbound = [completion 5 0 [1#32]] ∧ s.completionWait ≠ some false ∧
      packetType (completion 5 0 [1#32]) = 1 ∧ (readCompletion (completion 5 0 [1#32])).tag = (5 : Fin 48).val ∧
      (s.tags[(5 : Fin 48)]).state = .waiting ∧ (s.tags[(5 : Fin 48)]).owner = .channel) ∧
    ((holding .drain .copy).state = .drain ∧ ((holding .drain .copy).withoutTag 5).tagsHeld = [] ∧
      ({ holding .drain .copy with tagsHeld := [5, 6] }.withoutTag 5).tagsHeld ≠ []) ∧
    ((holding .run .copy).state = .run ∧ (holding .run .copy).readList =
      [] ++ { tag := some 5, purpose := .copy, offset := 0, wordCount := 1 } :: []) ∧
    (holding .run .scan).readList =
      [] ++ { tag := some 5, purpose := .scan, offset := 0, wordCount := 1 } :: [] ∧
    (∀ i ∈ ({ holding .run .copy with readList := [] } : Channel).readList, i.tag ≠ some 5) ∧
    ((holding .fetch .fetch).state = .fetch ∧ (readCompletion (completion 5 0 copy.words)).data = copy.words) ∧
    (¬(copy.op = 3 ∨ copy.wordCount = 0 ∨ (copy.last = false ∧ copy.next.toNat % 32 ≠ 0))) ∧
    ({ copy with w0 := 0x00000103#32 } : Descriptor).op = 3 ∧ ({ copy with w1 := 0#32 } : Descriptor).wordCount = 0 ∧
    (({ copy with w0 := 0#32, w7 := 16#32 } : Descriptor).last = false ∧
      ({ copy with w0 := 0#32, w7 := 16#32 } : Descriptor).next.toNat % 32 ≠ 0) := by
  decide +kernel

theorem witness_TagsExpireAndAreReclaimedOrAnswered :
    (∀ owner ∈ [TagOwner.gate, .channel, .requester], (withTag .waiting owner).deadlinePassed 5 ∧
      ((withTag .waiting owner).tags[(5 : Fin 48)]).state = .waiting ∧
      ((withTag .waiting owner).tags[(5 : Fin 48)]).owner = owner) ∧
    ((withTag .expired .requester).deadlinePassed 5 ∧
      ((withTag .expired .requester).tags[(5 : Fin 48)]).state = .expired) ∧
    ((withTag .waiting .requester).replyFits ∧ ¬(queued 32 (withTag .waiting .requester)).replyFits) ∧
    (((withTag .closing .requester).tags[(5 : Fin 48)]).state = .closing ∧
      ((withTag .closing .requester).tags[(5 : Fin 48)]).owner = .requester ∧
      ∀ i : Fin 48, i < 5 → ((withTag .closing .requester).tags[i]).state ≠ .closing) ∧
    (¬({ withTag .waiting .gate with timeBase := 0xFFFFFFFF#32 } : State).deadlinePassed 5 ∧
      ∀ i : Fin 48, (gate.tags[i]).state ≠ .closing) := by
  refine ⟨?_, ⟨⟨0#32, by decide +kernel⟩, by decide +kernel⟩, by unfold State.replyFits; decide +kernel,
    by decide +kernel, ?_, by decide +kernel⟩
  rotate_left
  · rintro ⟨d, hd, h⟩
    have : d = 0#32 := (Option.some.inj hd).symm
    subst this
    exact absurd h (by decide +kernel)
  intro owner h
  simp only [List.mem_cons, List.not_mem_nil, or_false] at h
  rcases h with rfl | rfl | rfl <;> exact ⟨⟨0#32, by decide +kernel⟩, by decide +kernel⟩

/-! ### Witnesses: the move channels -/

theorem witness_ChannelRequestIsCheckedAndFormed :
    let fenced := gate.setRequester 3 { RequesterRecord.reset with state := .fenced }
    let confirming : State := { withChannel running with active := gate.active.set 0 { entry with mode := .confirm } }
    (fenced.requesters[(3 : Fin 16)]).state = .fenced ∧
    ((gate.requesters[(3 : Fin 16)]).state = .opened ∧ ({ gate with dPort := LinkPort.reset } : State).dPort.state ≠ .up) ∧
    gate.regionCheck 0 1 .rd 3 = .miss ∧ gate.regionCheck 0x10003FFC 2 .rd 3 = .span 0 ∧
    gate.regionCheck 0x10000000 1 .rd 4 = .permission 0 ∧
    (withStatus .quiescing 1).regionCheck 0x10000000 1 .rd 3 = .paused 0 ∧
    (withChannel running).channelCheck running.owner 0 1 .rd = .stop .refused none (some 0#36) ∧
    (withChannel running).channelCheck running.owner 0xFFFFFFFFC 1 .rd = .stop .refused none (some 0xFFFFFFFFC#36) ∧
    (withChannel running).channelCheck running.owner 0x10000000 16 .rd =
      .pass { index := 0, address := 0x100000#36, kind := .rd, generation := 0#8 } ∧
    (withChannel running).channelCheck running.owner 0x10000000 1 .pw =
      .pass { index := 0, address := 0x100000#36, kind := .pw, generation := 0#8 } ∧
    confirming.channelCheck running.owner 0x10000000 1 .pw =
      .pass { index := 0, address := 0x100000#36, kind := .cw, generation := 0#8 } ∧
    ({ gate with freeTags := [] } : State).freeTags = [] ∧ gate.freeTags = 0 :: gate.freeTags.tail := by
  decide +kernel

/-- An address past the top of the space leaves the free value; the last word of the space leaves its own address. -/
theorem test_haltAddressBeyondTheSpaceIsFree :
    (withChannel running).channelCheck running.owner (2 ^ 36) 4 .pw =
      .stop .refused none (some (Config.haltAddressBeyond (2 ^ 36))) := by
  rfl

/-- The word count at its bounds, and the two parts of an address. -/
theorem test_descriptorFieldsOfTable12_9 :
    ({ copy with w1 := 0x00010007#32 } : Descriptor).wordCount = 65536 ∧
    ({ copy with w1 := 0x0000FFFF#32 } : Descriptor).wordCount = 65535 ∧
    ({ copy with w2 := 1#32, w3 := 0xFFFFFFFF#32 } : Descriptor).source = 0xC00000004 ∧
    ({ copy with w0 := 0x000F0000#32, w7 := 0x20#32 } : Descriptor).next = 0xF00000020#36 := by
  decide +kernel

/-- Each branch at the bounds of tags (3 and 4) and of buffer room. -/
theorem witness_ChannelFormsWhatIsDue :
    let fetching : Channel := { running with state := .fetch, descriptor := none }
    let waiting : Channel := { running with writeList := [{ offset := 0, data := [1#32] }] }
    (offering.formed ≠ none ∧ Channel.reset.running = false) ∧
    (fetching.formed = none ∧ fetching.state = .fetch ∧ fetching.readList = [] ∧
      ({ fetching with tagsHeld := [0, 1, 2] } : Channel).tagsHeld.length < 4 ∧
      4 ≤ ({ fetching with tagsHeld := [0, 1, 2, 3] } : Channel).tagsHeld.length) ∧
    (running.formed = none ∧ running.state = .run ∧ running.descriptor = some copy) ∧
    (waiting.writeList = { offset := 0, data := [1#32] } :: [] ∧ lookup gate.active (copy.destination / 4096) = some 0 ∧
      (gate.active[(0 : Fin 64)]).mode = .posted) ∧
    (running.writeList.head? = none ∧ 1 ≤ running.wordsRemaining ∧ copy.op = 0 ∧
      ({ copy with w0 := 0x00000102#32 } : Descriptor).op = 2 ∧ ({ copy with w0 := 0x00000101#32 } : Descriptor).op = 1 ∧
      ({ running with wordsRemaining := 0 } : Channel).wordsRemaining = 0) ∧
    ((({ gate with active := gate.active.set 0 { entry with mode := .confirm } } : State).active[(0 : Fin 64)]).mode ≠
      .posted ∧ ¬({ waiting with tagsHeld := [0, 1, 2, 3] } : Channel).tagsHeld.length < 4) := by
  decide +kernel

theorem witness_WaitingRequestTakesATag :
    let untagged : Channel := { running with
      formed := some { entry := { posted with kind := .rd, data := [] }, copyWrite := false }
      readList := [{ tag := none, purpose := .copy, offset := 0, wordCount := 1 }] }
    let s := withChannel untagged
    (s.channels[(0 : Fin 2)]).formed = some { entry := { posted with kind := .rd, data := [] }, copyWrite := false } ∧
      posted.tag = none ∧ s.freeTags = 0 :: s.freeTags.tail := by
  decide +kernel

theorem witness_ChannelFinishesAndDrains :
    let done : Channel := { running with wordsRemaining := 0 }
    let more : Channel := { done with descriptor := some { copy with w0 := 0x00000200#32 } }
    let untagged : Channel := { running with formed := some { entry := posted, copyWrite := false } }
    (running.wordsRemaining ≠ 0 ∧ running.state = .run) ∧
    (done.wordsRemaining = 0 ∧ done.readList = [] ∧ done.writeList = [] ∧ done.formed = none ∧ done.tagsHeld = [] ∧
      copy.last = true) ∧
    (more.descriptor.map Descriptor.last = some false ∧ more.descriptor.map Descriptor.notify = some true) ∧
    (running.running = true ∧ (∀ f, offering.formed = some f → f.entry.tag ≠ none) ∧
      ∃ f, untagged.formed = some f ∧ f.entry.tag = none) ∧
    ((holding .drain .copy).state = .drain ∧ (holding .drain .copy).tagsHeld ≠ [] ∧ Channel.reset.state = .idle ∧
      ({ Channel.reset with state := .halted } : Channel).state = .halted) := by
  intro done more untagged
  refine ⟨by decide +kernel, by decide +kernel, by decide +kernel, ⟨by decide +kernel, ?_, ⟨_, rfl, rfl⟩⟩,
    by decide +kernel⟩
  intro f h
  cases h
  decide +kernel

/-! ### Witnesses: notices and replies -/

theorem witness_NoticeIsPlacedAndReplyHeadSent :
    let due (n : Nat) : State :=
      { queued n gate with noticeRequester := some 0, enabledCauses := 0x3F#6, pendingCauses := 0x20#6 }
    ((due 31).armed = true ∧ (due 31).noticeRequester = some 0 ∧
      (due 31).pendingCauses &&& (due 31).enabledCauses ≠ 0#6 ∧ (due 31).uPort.state = .up ∧
      (due 31).replyQueue.length < 32) ∧
    (gate.noticeRequester = none ∧ 32 ≤ (due 32).replyQueue.length) ∧
    (gate.replyQueue = [] ∧ (deaf (due 31)).uPort.state ≠ .up ∧
      { (due 31) with armed := false }.armed = false ∧ gate.pendingCauses &&& gate.enabledCauses = 0#6) ∧
    ((queued 1 gate).replyQueue = .notice 0 0#6 0#32 :: [] ∧ (queued 1 gate).uPort.ready) := by
  unfold LinkPort.ready
  decide +kernel

/-! ### Witnesses: commands and writes -/

/-- The manager may manage the gate, with 31 replies queued too. -/
theorem gate_mayManage : gate.mayManage manager ∧ (queued 31 gate).mayManage manager := by
  unfold State.mayManage
  decide +kernel

/-- The gate with a commit in VALIDATE. -/
def committing : State := validating gate.active 0 gate

theorem committing_mayManage : committing.mayManage manager := by
  unfold State.mayManage
  decide +kernel

theorem witness_CommitBeginsAndCancelEnds :
    (gate.mayManage manager ∧ gate.command.busy = false) ∧
      committing.mayManage manager ∧ committing.command.busy = true :=
  ⟨⟨gate_mayManage.1, by decide +kernel⟩, committing_mayManage, by decide +kernel⟩

/-- Each run state, and the operands 63 and 64. -/
theorem witness_QuiesceChangesTheRunState :
    (gate.mayManage manager ∧ gate.command.busy = false) ∧ 63 < (64#16).toNat ∧
    ((63#16).toNat = (63 : Fin 64).val ∧ (gate.regions[(63 : Fin 64)]).runState = .opened ∧
      (gate.regions[(63 : Fin 64)]).inFlight = 0) ∧
    (0 < ((withStatus .opened 1).regions[(0 : Fin 64)]).inFlight ∧
      ((withStatus .opened 1).regions[(0 : Fin 64)]).runState = .opened) ∧
    ((withStatus .quiescing 1).regions[(0 : Fin 64)]).runState ≠ .opened :=
  ⟨⟨gate_mayManage.1, by decide +kernel⟩, by decide +kernel⟩

theorem witness_ResumeDigestClearUnfenceAndRevert :
    (gate.mayManage manager ∧ gate.command.busy = false) ∧
    (((withStatus .quiesced 0).regions[(0 : Fin 64)]).runState ≠ .opened ∧ (0#16).toNat = (0 : Fin 64).val ∧
      (gate.regions[(0 : Fin 64)]).runState = .opened) ∧
    (((gate.setRequester 15 { RequesterRecord.reset with state := .fenced }).requesters[(15 : Fin 16)]).state = .fenced ∧
      (15#16).toNat = (15 : Fin 16).val ∧ (gate.requesters[(15 : Fin 16)]).state = .opened) :=
  ⟨⟨gate_mayManage.1, by decide +kernel⟩, by decide +kernel⟩

theorem witness_LogNoticeAndCounterCommands :
    (gate.mayManage manager ∧ gate.command.busy = false ∧ gate.faultLog = []) ∧
      ∃ head rest, (gate.takeFault fault).faultLog = head :: rest :=
  ⟨⟨gate_mayManage.1, by decide +kernel⟩, _, _, rfl⟩

/-- A fence of requester 3 that finds its RD with tag 0 and its PW queued, their index QUIESCING. -/
def fenceable : State :=
  { withStatus .quiescing 2 with
    tags := gate.tags.set 0 { TagRecord.reset with state := .queued, ownerRequester := 3, wordCount := 2 }
    freeTags := gate.freeTags.drop 1
    requesters := gate.requesters.set 3 { RequesterRecord.reset with outstanding := 1 }
    currentTotal := 2
    issueQueue := [{ posted with kind := .rd, tag := some 0, wordCount := 2, lastEnables := 0xF#4, data := [] }, posted] }

theorem witness_FenceFlushesARequester :
    (fenceable.mayManage manager ∧ fenceable.command.busy = false ∧ (3#16).toNat = (3 : Fin 16).val ∧
      (3 : Fin 16) ≠ manager.requester ∧ (fenceable.requesters[(3 : Fin 16)]).state = .opened ∧
      fenceable.command.phase = none ∧ fenceable.tagUseLaw) ∧
    (fenceable.flushedTags 3 = [0] ∧ fenceable.issueQueue.length = 2) ∧
    ((0#16).toNat = manager.requester.val ∧
      ((gate.setRequester 3 { RequesterRecord.reset with state := .fenced }).requesters[(3 : Fin 16)]).state =
        .fenced) := by
  unfold State.mayManage State.tagUseLaw State.formedTag State.queuedTags
  decide +kernel

theorem witness_ChannelCommands :
    let halted : Channel := { Channel.reset with state := .halted }
    (gate.mayManage manager ∧ gate.command.busy = false ∧ (0#16).toNat = (0 : Fin 2).val ∧
      (1#16).toNat = (1 : Fin 2).val) ∧
    ((gate.channels[(0 : Fin 2)]).state = .idle ∧ (gate.channels[(0 : Fin 2)]).running = false) ∧
    (running.running = true ∧ (holding .drain .copy).state = .drain) ∧
    (halted.state = .halted ∧ halted.descriptor = none ∧
      ({ halted with descriptor := some copy } : Channel).descriptor = some copy) ∧
    running.state ≠ .halted :=
  ⟨⟨gate_mayManage.1, by decide +kernel⟩, by decide +kernel⟩

theorem witness_RetrainAndRestart :
    gate.mayManage manager ∧ gate.command.busy = false ∧ gate.dPort.state ≠ .down :=
  ⟨gate_mayManage.1, by decide +kernel⟩

theorem witness_OperandOutOfRange :
    (gate.mayManage manager ∧ gate.command.busy = false) ∧ 63 < (64#16).toNat ∧ 15 < (16#16).toNat ∧
    1 < (2#16).toNat ∧
    ∀ known ∈ [0x01#8, 0x02#8, 0x03#8, 0x10#8, 0x11#8, 0x12#8, 0x20#8, 0x21#8, 0x30#8, 0x31#8, 0x38#8, 0x39#8,
      0x40#8, 0x41#8, 0x42#8, 0x50#8, 0x60#8, 0x7F#8], (0x7E#8) ≠ known :=
  ⟨⟨gate_mayManage.1, by decide +kernel⟩, by decide +kernel⟩

theorem witness_BusyRefusesCommandsAndStaging :
    committing.mayManage manager ∧ committing.command.busy = true ∧ commandOf 0x7E#8 = none :=
  ⟨committing_mayManage, by decide +kernel⟩

theorem witness_WritesReplaceTheirFields :
    (gate.mayManage manager ∧ gate.command.busy = false) ∧
    ((gate.channels[(1 : Fin 2)]).state = .idle ∧ ((withChannel running).channels[(0 : Fin 2)]).running = true) ∧
    apertureWritable (apertureWord (4 * (0x0001#14).toNat)) = false :=
  ⟨⟨gate_mayManage.1, by decide +kernel⟩, by decide +kernel⟩

/-- Requester 0 alone manages; a second manager lets it go. -/
theorem witness_RequesterWriteKeepsAManager :
    let two := gate.setRequester 1 { RequesterRecord.reset with right := true }
    gate.mayManage manager ∧ ((1#32).getLsbD 0 = true ∧ (gate.requesters[(5 : Fin 16)]).right = false) ∧
    (∃ x : Fin 16, x ≠ 0 ∧ (two.requesters[x]).state = .opened ∧ (two.requesters[x]).right = true) ∧
    ¬((0#32).getLsbD 0 = true ∨ (gate.requesters[(0 : Fin 16)]).right = false ∨
      ∃ x : Fin 16, x ≠ 0 ∧ (gate.requesters[x]).state = .opened ∧ (gate.requesters[x]).right = true) :=
  ⟨gate_mayManage.1, by decide +kernel⟩

/-! ### Witnesses: formats -/

/-- The shortest packet and the longest, a length that no unit has, and a request packet's largest count and address. -/
theorem witness_UnitsAndPacketsReadBack :
    (1 ≤ [0#32].length ∧ (List.replicate 18 0#32).length ≤ 18) ∧
    readUnit (unitBytes (wrapUnit 127#7 [0x12345678#32])) = some (127#7, [0x12345678#32]) ∧
    ¬(7 ≤ [0#8].length ∧ [0#8].length ≤ 75 ∧ [0#8].length % 4 = 3) ∧
    (31 : Nat) ≤ 31 ∧ (0xFFFFFFFFC#36).toNat % 4 = 0 ∧
    (crc16 [0x81#8, 1#8, 0#8, 0#8, 0#8] = (crc16 [0x81#8, 1#8, 0#8, 0#8, 0#8]).extractLsb' 8 8 ++
      (crc16 [0x81#8, 1#8, 0#8, 0#8, 0#8]).extractLsb' 0 8 ∧
      crc16 [0x81#8, 1#8, 0#8, 0#8, 0#8] ≠ 0#8 ++ 0#8 ∧ (0x7F#8 : Byte) = (0x7F#7).setWidth 8) := by
  decide +kernel

/-- Offsets beside the first and the last row of the map, and beyond the aperture, are in no row; every other case of a
clause stands in some state. -/
theorem witness_ApertureWordsShowTheirFields :
    (∀ offset ∈ [0x0010, 0x413C, 0x4200], offset % 4 = 0 ∧ ¬inRows apertureRows offset) ∧
    ((gate.faultLog = [] ∧ (logged 1).faultLog =
        { report := { kind := .image }, firstTime := 0#32, repeatCount := 65535 } :: []) ∧
      fault.detail = none ∧ ({ fault with detail := some (.entries 2) } : FaultReport).detail = some (.entries 2)) ∧
    (gate.digests[(0 : Fin 64)]).lastWriter = none ∧
    ((State.absorb posted (.requester 3) gate).digests[(0 : Fin 64)]).lastWriter = some (.requester 3) ∧
    ((State.absorb posted (.channel 1) gate).digests[(0 : Fin 64)]).lastWriter = some (.channel 1) ∧
    (gate.channels[(0 : Fin 2)]).descriptor = none ∧
    ({ Channel.reset with descriptor := some copy } : Channel).descriptor = some copy := by
  refine ⟨?_, by decide +kernel⟩
  intro offset h
  simp only [List.mem_cons, List.not_mem_nil, or_false] at h
  refine ⟨by omega, ?_⟩
  simp only [inRows, apertureRows, List.mem_cons, List.not_mem_nil, or_false]
  rintro ⟨row, hrow, i, w, hi, hw, ho⟩
  rcases hrow with h | h | h | h | h | h | h | h | h | h | h | h | h | h | h | h | h | h | h | h | h <;> subst h <;>
    simp only at hi hw ho <;> omega

end Sys2Proof.Tests
end

/-! The region table: ranges of an entry, lookup (R3), validation (R15) and QUIESCE (R22). -/

namespace Sys2Proof.Machine

/-! ### Scans of a table in increasing index -/

/-- What stands before an index in scan order are the lower indices. -/
theorem mem_scannedBefore {n : Nat} {i j : Fin n} {before after : List (Fin n)}
    (parts : List.finRange n = before ++ i :: after) (below : j < i) : j ∈ before := by
  have sorted := List.pairwise_lt_finRange n
  have scanned := List.mem_finRange j
  rw [parts, List.pairwise_append, List.pairwise_cons] at sorted
  rw [parts, List.mem_append, List.mem_cons] at scanned
  obtain ⟨-, ⟨above, -⟩, -⟩ := sorted
  obtain inBefore | same | inAfter := scanned
  · exact inBefore
  · exact absurd same (Fin.ne_of_lt below)
  · exact absurd below (Nat.lt_asymm (above j inAfter))

theorem find?_finRange_eq_none_iff {n : Nat} (p : Fin n → Bool) :
    (List.finRange n).find? p = none ↔ ∀ i, p i = false := by
  simp only [List.find?_eq_none, List.mem_finRange, true_implies, Bool.not_eq_true]

/-- A scan that finds an index has passed over every lower one. -/
theorem lowest_of_find?_finRange {n : Nat} {p : Fin n → Bool} {i : Fin n} (found : (List.finRange n).find? p = some i) :
    p i = true ∧ ∀ j < i, p j = false := by
  obtain ⟨holds, before, after, parts, passed⟩ := List.find?_eq_some_iff_append.mp found
  exact ⟨holds, fun j below => (Bool.not_eq_true' (p j)).mp (passed j (mem_scannedBefore parts below))⟩

/-- A scan that gives a result has it from the lowest index that gives one. -/
theorem lowest_of_findSome?_finRange {n : Nat} {α : Type} {f : Fin n → Option α} {x : α}
    (found : (List.finRange n).findSome? f = some x) : ∃ i, f i = some x ∧ ∀ j < i, f j = none := by
  obtain ⟨before, i, after, parts, gives, passed⟩ := List.findSome?_eq_some_iff.mp found
  exact ⟨i, gives, fun j below => passed j (mem_scannedBefore parts below)⟩

/-! ### Ranges of an entry (2.1) -/

theorem RegionEntry.contains_iff (e : RegionEntry) (page : Nat) :
    e.contains page = true ↔ e.valid = true ∧ e.upstreamBase.toNat ≤ page ∧ page < e.upstreamEnd := by
  simp only [RegionEntry.contains, Bool.and_eq_true, decide_eq_true_eq, and_assoc]

theorem RegionEntry.overlaps_iff (e f : RegionEntry) :
    e.overlaps f = true ↔ e.upstreamBase.toNat < f.upstreamEnd ∧ f.upstreamBase.toNat < e.upstreamEnd := by
  simp only [RegionEntry.overlaps, Bool.and_eq_true, decide_eq_true_eq]

/-- Ranges share no page exactly when one of them ends before the other begins. -/
theorem RegionEntry.not_overlaps_iff (e f : RegionEntry) :
    e.overlaps f = false ↔ e.upstreamEnd ≤ f.upstreamBase.toNat ∨ f.upstreamEnd ≤ e.upstreamBase.toNat := by
  rw [← Bool.not_eq_true, RegionEntry.overlaps_iff]
  omega

/-- Valid entries that contain one page share it. -/
theorem RegionEntry.overlaps_of_contains {e f : RegionEntry} {page : Nat} (he : e.contains page = true)
    (hf : f.contains page = true) : e.overlaps f = true := by
  obtain ⟨-, baseE, endE⟩ := (e.contains_iff page).mp he
  obtain ⟨-, baseF, endF⟩ := (f.contains_iff page).mp hf
  exact (e.overlaps_iff f).mpr ⟨Nat.lt_of_le_of_lt baseE endF, Nat.lt_of_le_of_lt baseF endE⟩

/-! ### Lookup (R3) -/

/-- The page number of an address is its bits 35 to 12. -/
theorem toNat_extractPage (a : Address) : (a.extractLsb' 12 24).toNat = pageOf a.toNat := by
  have bound : a.toNat < 2 ^ 36 := a.isLt
  simp only [BitVec.extractLsb'_toNat, Nat.shiftRight_eq_div_pow, pageOf, Config.pageBytes]
  omega

theorem lookup_eq_none_iff (b : Bank) (page : Nat) :
    lookup b page = none ↔ ∀ r : Fin 64, (b[r]).contains page = false :=
  find?_finRange_eq_none_iff _

theorem contains_of_lookup {b : Bank} {page : Nat} {r : Fin 64} (found : lookup b page = some r) :
    (b[r]).contains page = true :=
  (lowest_of_find?_finRange found).1

/-- Valid entries of a lawful bank that share a page are one entry (R15, R18). -/
theorem bankLawful.eq_of_overlaps {b : Bank} (lawful : bankLawful b) {i j : Fin 64} (validI : (b[i]).valid = true)
    (validJ : (b[j]).valid = true) (shared : (b[i]).overlaps b[j] = true) : i = j := by
  refine Decidable.byContradiction fun differ => ?_
  obtain ⟨-, -, -, apart⟩ := lawful i validI
  have disjoint := ((b[i]).not_overlaps_iff b[j]).mpr (apart j (Ne.symm differ) validJ)
  exact Bool.noConfusion (shared.symm.trans disjoint)

/-- In a lawful bank the entry that contains the page is the one that lookup finds. -/
theorem bankLawful.lookup_eq_some {b : Bank} (lawful : bankLawful b) {page : Nat} {r : Fin 64}
    (inside : (b[r]).contains page = true) : lookup b page = some r := by
  cases found : lookup b page with
  | none => exact Bool.noConfusion (inside.symm.trans ((lookup_eq_none_iff b page).mp found r))
  | some j =>
    have insideJ := contains_of_lookup found
    obtain ⟨validR, -⟩ := ((b[r]).contains_iff page).mp inside
    obtain ⟨validJ, -⟩ := ((b[j]).contains_iff page).mp insideJ
    exact congrArg some (lawful.eq_of_overlaps validJ validR (RegionEntry.overlaps_of_contains insideJ inside))

/-- Settles O14: lookup finds an entry that contains the page where there is one, and a lawful bank has no second. -/
theorem lookupYieldsTheOneEntry : Obligations.LookupYieldsTheOneEntry := by
  intro b a page inside
  have contains_iff_inside (r : Fin 64) : (b[r]).contains page = true ↔ inside r := (b[r]).contains_iff page
  refine ⟨toNat_extractPage a, ?_, fun r found => ?_, fun lawful r insideR => ?_⟩
  · simp only [lookup_eq_none_iff, ← contains_iff_inside, Bool.not_eq_true]
  · exact (contains_iff_inside r).mp (contains_of_lookup found)
  · exact lawful.lookup_eq_some ((contains_iff_inside r).mpr insideR)

/-! ### Validation (R15) -/

/-- The first of an entry's own four tests to fail is the one that gives this cause. -/
def RegionEntry.failsFirst (e : RegionEntry) : ValidationCause → Prop
  | .countZero => e.pageCount.toNat = 0
  | .upWrap => 1 ≤ e.pageCount.toNat ∧ 0x1000000 < e.upstreamEnd
  | .downWrap => 1 ≤ e.pageCount.toNat ∧ e.upstreamEnd ≤ 0x1000000 ∧ 0x1000000 < e.downstreamEnd
  | .aperture =>
    1 ≤ e.pageCount.toNat ∧ e.upstreamEnd ≤ 0x1000000 ∧ e.downstreamEnd ≤ 0x1000000 ∧ 0xFFFFF0 < e.upstreamEnd
  | .overlap => False

/-- An entry passes its own four tests. -/
def RegionEntry.passesOwn (e : RegionEntry) : Prop :=
  1 ≤ e.pageCount.toNat ∧ e.upstreamEnd ≤ 0x1000000 ∧ e.downstreamEnd ≤ 0x1000000 ∧ e.upstreamEnd ≤ 0xFFFFF0

theorem RegionEntry.failsFirst_of_ownFault {e : RegionEntry} {cause : ValidationCause}
    (fault : e.ownFault = some cause) : e.failsFirst cause := by
  simp only [RegionEntry.ownFault, Config.pages, Config.aperturePage] at fault
  repeat' split at fault
  all_goals cases fault <;> simp only [RegionEntry.failsFirst] <;> omega

theorem RegionEntry.ownFault_eq_none_iff (e : RegionEntry) : e.ownFault = none ↔ e.passesOwn := by
  simp only [RegionEntry.ownFault, RegionEntry.passesOwn, Config.pages, Config.aperturePage]
  repeat' split
  all_goals
    simp only [reduceCtorEq, false_iff, true_iff]
    omega

theorem overlapBelow_eq_none_iff (b : Bank) (i : Fin 64) :
    overlapBelow b i = none ↔ ∀ j < i, (b[j]).valid = true → (b[i]).overlaps b[j] = false := by
  simp only [overlapBelow, find?_finRange_eq_none_iff, Bool.and_eq_false_imp, Bool.and_eq_true, decide_eq_true_eq,
    and_imp, Fin.lt_def]

/-- The overlap reported is with a valid entry below, and no valid entry lower than that one is overlapped. -/
theorem lowest_of_overlapBelow {b : Bank} {i j : Fin 64} (found : overlapBelow b i = some j) :
    (j < i ∧ (b[j]).valid = true ∧ (b[i]).overlaps b[j] = true) ∧
      ∀ k < j, (b[k]).valid = true → (b[i]).overlaps b[k] = false := by
  obtain ⟨holds, passed⟩ := lowest_of_find?_finRange found
  simp only [Bool.and_eq_true, decide_eq_true_eq, Bool.and_eq_false_imp, and_imp] at holds passed
  obtain ⟨⟨below, valid⟩, shared⟩ := holds
  exact ⟨⟨below, valid, shared⟩, fun k lower => passed k lower (Nat.lt_trans lower below)⟩

/-- An entry passes when neither its own tests nor an entry below it give a cause. -/
theorem entryPasses_iff (b : Bank) (i : Fin 64) :
    entryPasses b i ↔ (b[i]).ownFault = none ∧ overlapBelow b i = none := by
  simp only [RegionEntry.ownFault_eq_none_iff, overlapBelow_eq_none_iff, RegionEntry.not_overlaps_iff, entryPasses,
    RegionEntry.passesOwn, and_assoc]

theorem entryFault_eq_none_iff (b : Bank) (i : Fin 64) :
    entryFault b i = none ↔ ((b[i]).valid = true → entryPasses b i) := by
  rw [entryPasses_iff, entryFault]
  split
  case isFalse absent => exact ⟨fun _ valid => absurd valid absent, fun _ => rfl⟩
  case isTrue valid =>
    cases (b[i]).ownFault with
    | some cause => simp only [reduceCtorEq, false_and, valid, true_implies]
    | none => simp only [Option.map_eq_none_iff, true_and, valid, true_implies]

/-- A failing entry is valid, and fails one of its own tests or, passing them, overlaps an entry below it. -/
theorem entryFault_eq_some {b : Bank} {i i' : Fin 64} {cause : ValidationCause} {other : Option (Fin 64)}
    (fault : entryFault b i = some (i', cause, other)) :
    i' = i ∧ (b[i]).valid = true ∧
      ((b[i]).ownFault = some cause ∧ other = none ∨
        (b[i]).ownFault = none ∧ cause = .overlap ∧ ∃ j, other = some j ∧ overlapBelow b i = some j) := by
  unfold entryFault at fault
  split at fault
  case isFalse => cases fault
  case isTrue valid =>
    cases own : (b[i]).ownFault with
    | some first =>
      simp only [own] at fault
      cases fault
      exact ⟨rfl, valid, .inl ⟨rfl, rfl⟩⟩
    | none =>
      simp only [own, Option.map_eq_some_iff] at fault
      obtain ⟨j, below, overlap⟩ := fault
      cases overlap
      exact ⟨rfl, valid, .inr ⟨rfl, rfl, j, rfl, below⟩⟩

theorem validate_eq_none_iff (b : Bank) :
    validate b = none ↔ ∀ i : Fin 64, (b[i]).valid = true → entryPasses b i := by
  simp only [validate, List.findSome?_eq_none_iff, List.mem_finRange, true_implies, entryFault_eq_none_iff]

/-- What validation reports is the failure of an entry below which every valid entry passes. -/
theorem validate_eq_some {b : Bank} {i : Fin 64} {cause : ValidationCause} {other : Option (Fin 64)}
    (report : validate b = some (i, cause, other)) :
    entryFault b i = some (i, cause, other) ∧ ∀ j < i, (b[j]).valid = true → entryPasses b j := by
  obtain ⟨k, fault, before⟩ := lowest_of_findSome?_finRange report
  obtain ⟨rfl, -⟩ := entryFault_eq_some fault
  exact ⟨fault, fun j below => (entryFault_eq_none_iff b j).mp (before j below)⟩

/-- Settles O16: validation stops at the first entry with a failure, and that failure is its first failing own test
or, where it passes those, the lowest entry it overlaps. -/
theorem validationFindsTheFirstFailure : Obligations.ValidationFindsTheFirstFailure := by
  refine fun b => ⟨validate_eq_none_iff b, fun i cause other report => ?_⟩
  obtain ⟨fault, before⟩ := validate_eq_some report
  obtain ⟨-, valid, ⟨own, rfl⟩ | ⟨own, rfl, j, rfl, below⟩⟩ := entryFault_eq_some fault
  · have first := RegionEntry.failsFirst_of_ownFault own
    refine ⟨valid, before, ?_⟩
    cases cause <;> simp only [RegionEntry.failsFirst] at first <;>
      simp only [first, ne_eq, reduceCtorEq, not_true_eq_false, not_false_eq_true, false_implies, true_implies, imp_self,
        or_self, or_false, and_self]
  · obtain ⟨nonempty, up, down, aperture⟩ := (b[i]).ownFault_eq_none_iff.mp own
    obtain ⟨⟨belowJ, validJ, shared⟩, lowest⟩ := lowest_of_overlapBelow below
    obtain ⟨startsBefore, endsAfter⟩ := ((b[i]).overlaps_iff b[j]).mp shared
    have apart (k : Fin 64) (hk : k < j) (validK : (b[k]).valid = true) :=
      ((b[i]).not_overlaps_iff b[k]).mp (lowest k hk validK)
    refine ⟨valid, before, ?_⟩
    simp only [ne_eq, reduceCtorEq, not_true_eq_false, not_false_eq_true, false_implies, true_implies, or_true, true_and]
    exact ⟨nonempty, up, down, aperture, j, rfl, belowJ, validJ, startsBefore, endsAfter, apart⟩

/-! ### Commands taken in IDLE (R130, R132, R133) -/

/-- What admission establishes is what the hand-over asks for. -/
theorem State.mayManage.handsOver {s : State} {a : Access} (managed : s.mayManage a) : s.handsOver a = true := by
  obtain ⟨up, mode, opened, right, slot⟩ := managed
  simp only [State.handsOver, State.replySlot, Bool.and_eq_true, Bool.or_eq_true, Bool.not_eq_true', beq_iff_eq,
    bne_iff_ne, decide_eq_true_eq]
  refine ⟨⟨⟨⟨up, mode⟩, opened⟩, right⟩, ?_⟩
  cases confirmed : a.confirmed with
  | false => exact .inl rfl
  | true => exact .inr (.inr (slot confirmed))

/-- While the U port is UP, the answer to a management write is placed. -/
theorem State.answer_of_up (a : Access) (status : Status) {s : State} (up : s.uPort.state = .up) :
    s.answer a status = s.replied a status := by
  cases confirmed : a.confirmed with
  | false =>
    simp only [State.answer, State.replied, replies, confirmed, Bool.false_eq_true, if_false, List.append_nil]
  | true => simp only [State.answer, State.replied, replies, confirmed, if_true, State.placeReply_up _ _ up]

/-- A command taken in IDLE, whose effect leaves the U port alone, ends with that effect, its status and its reply. -/
theorem State.handed_takeCommand {s : State} {a : Access} (managed : s.mayManage a) (idle : s.command.busy = false)
    (code : Byte) (operand : BitVec 16) {effect : Effect} {t : State} {result : Result} (done : effect s = (t, result))
    (keepsPort : t.uPort = s.uPort) :
    s.handed a (State.takeCommand a code operand effect) = t.taken a code operand result := by
  have up : t.uPort.state = .up := keepsPort ▸ managed.1
  rw [State.handed_of_handsOver a _ s managed.handsOver, State.takeCommand, idle, done]
  exact State.answer_of_up a .ok (s := { t with command := CommandStatus.record code operand a.requester result }) up

theorem withRegion_of_gt {operand : BitVec 16} (beyond : 63 < operand.toNat) (effect : Fin 64 → Effect) (s : State) :
    withRegion operand effect s = (s, .range) :=
  dif_neg (Nat.not_lt.mpr beyond)

theorem withRegion_of_eq {operand : BitVec 16} {r : Fin 64} (index : operand.toNat = r.val) (effect : Fin 64 → Effect)
    (s : State) : withRegion operand effect s = effect r s := by
  simp only [withRegion, index, r.isLt, dif_pos, Fin.eta]

/-! ### QUIESCE (R22) -/

theorem quiesceEffect_of_inFlight {r : Fin 64} {s : State} (opened : (s.regions[r]).runState = .opened)
    (items : 0 < (s.regions[r]).inFlight) :
    quiesceEffect r s = (s.setRegion r { s.regions[r] with runState := .quiescing }, .done) := by
  simp only [quiesceEffect, opened, Nat.ne_of_gt items, if_false]

theorem quiesceEffect_of_empty {r : Fin 64} {s : State} (opened : (s.regions[r]).runState = .opened)
    (empty : (s.regions[r]).inFlight = 0) :
    quiesceEffect r s = ((s.setRegion r { s.regions[r] with runState := .quiesced }).raise .quiesced, .done) := by
  simp only [quiesceEffect, opened, empty, if_true]

theorem quiesceEffect_of_not_opened {r : Fin 64} {s : State} (notOpened : (s.regions[r]).runState ≠ .opened) :
    quiesceEffect r s = (s, .state) := by
  cases runState : (s.regions[r]).runState with
  | opened => exact absurd runState notOpened
  | quiescing => simp only [quiesceEffect, runState]
  | quiesced => simp only [quiesceEffect, runState]

/-- QUIESCE, handed over in IDLE, ends with what its effect gives. -/
theorem exec_quiesce_of_effect {s : State} {a : Access} (managed : s.mayManage a) (idle : s.command.busy = false)
    {operand : BitVec 16} {t : State} {result : Result} (done : withRegion operand quiesceEffect s = (t, result))
    (keepsPort : t.uPort = s.uPort) :
    exec (.quiesce a operand) s = .next (t.taken a 0x10#8 operand result) :=
  congrArg Host.Outcome.next (State.handed_takeCommand managed idle (commandCode .quiesce) operand done keepsPort)

/-- Settles O49, by the operand and the run state of its index. -/
theorem quiesceChangesTheRunState : Obligations.QuiesceChangesTheRunState := by
  intro s a operand managed idle run
  refine ⟨fun beyond => ?_, fun r index => ⟨fun opened items => ?_, fun opened empty => ?_, fun notOpened => ?_⟩⟩
  · exact exec_quiesce_of_effect managed idle (withRegion_of_gt beyond quiesceEffect s) rfl
  all_goals have effect := withRegion_of_eq index quiesceEffect s
  · exact exec_quiesce_of_effect managed idle (effect.trans (quiesceEffect_of_inFlight opened items)) rfl
  · exact exec_quiesce_of_effect managed idle (effect.trans (quiesceEffect_of_empty opened empty)) rfl
  · exact exec_quiesce_of_effect managed idle (effect.trans (quiesceEffect_of_not_opened notOpened)) rfl

end Sys2Proof.Machine

/-! The fault log: whether a fault coalesces into the newest record, is appended or is lost (R115). -/

namespace Sys2Proof.Machine

/-! ### The comparison with the newest record -/

theorem coalesces_iff (f : FaultReport) (r : FaultRecord) :
    coalesces f r = true ↔ f.kind = r.report.kind ∧ f.requester = r.report.requester ∧ f.region = r.report.region := by
  simp only [coalesces, Bool.and_eq_true, beq_iff_eq, and_assoc]

/-! ### A fault that does not coalesce -/

/-- A log with room takes the fault as its newest record, and LOG becomes pending. -/
theorem State.addFault_of_room {s : State} (room : s.faultLog.length < Config.logSlots) (f : FaultReport) :
    s.addFault f = State.raise .log { s with faultLog := s.faultLog ++ [newRecord f s.timeBase] } :=
  if_pos room

/-- A full log loses the fault, and LOG does not become pending. -/
theorem State.addFault_of_full {s : State} (full : Config.logSlots ≤ s.faultLog.length) (f : FaultReport) :
    s.addFault f = { s with lostCount := saturatingSucc s.lostCount } :=
  if_neg (Nat.not_lt.mpr full)

/-! ### A fault taken -/

/-- A fault that coalesces raises the repeat count of the newest record, and LOG becomes pending. -/
theorem State.takeFault_of_coalesces {s : State} {f : FaultReport} {rest : List FaultRecord} {newest : FaultRecord}
    (log : s.faultLog = rest ++ [newest]) (same : coalesces f newest = true) :
    s.takeFault f = State.raise .log
      { s with faultLog := rest ++ [{ newest with repeatCount := saturatingSucc newest.repeatCount }] } := by
  simp only [State.takeFault, log, List.getLast?_concat, same, if_true, List.dropLast_concat]

/-- A fault is added when the log is empty or its newest record does not coalesce with it. -/
theorem State.takeFault_of_not_coalesces {s : State} {f : FaultReport}
    (other : ∀ rest newest, s.faultLog = rest ++ [newest] → ¬ coalesces f newest = true) :
    s.takeFault f = s.addFault f := by
  cases last : s.faultLog.getLast? with
  | none => simp only [State.takeFault, last]
  | some newest =>
    obtain ⟨rest, log⟩ := List.getLast?_eq_some_iff.mp last
    simp only [State.takeFault, last, other rest newest log, Bool.false_eq_true, if_false]

/-- Settles O19, by the comparison with the newest record and then by the room in the log. -/
theorem faultIsCoalescedAppendedOrLost : Obligations.FaultIsCoalescedAppendedOrLost := by
  intro s f agrees
  refine ⟨fun rest newest log same => ?_, fun other => ?_⟩
  · exact State.takeFault_of_coalesces log ((coalesces_iff f newest).mpr same)
  · have added : s.takeFault f = s.addFault f := State.takeFault_of_not_coalesces fun rest newest log same =>
      other rest newest log ((coalesces_iff f newest).mp same)
    exact ⟨fun room => added.trans (State.addFault_of_room room f),
      fun full => added.trans (State.addFault_of_full full f)⟩

end Sys2Proof.Machine

/-! What an event of the gate can do, said once: every command is a run of moves, of replies, or one whole event. Every
law of the gate is then kept because each move keeps it. -/

namespace Sys2Proof.Machine

/-! ### What no law reads -/

/-- A port changes within its state and keeps its law; what it withholds stays, and an empty inbound buffer fills only
out of an allowance. -/
structure LinkPort.Kept (l m : LinkPort) : Prop where
  law : l.law → m.law
  state : m.state = l.state
  withholds : m.withholds = l.withholds
  inbound : l.inbound = [] → l.allowance = 0 → m.inbound = []

theorem LinkPort.Kept.refl (l : LinkPort) : l.Kept l := ⟨id, rfl, rfl, fun h _ => h⟩

/-- Only the log, the ports and the fields that no law reads have changed. -/
structure State.Aside (s t : State) : Prop where
  frame : t = { s with
    timeBase := t.timeBase, serialSelect := t.serialSelect, digests := t.digests, admissionWait := t.admissionWait
    replyTimeout := t.replyTimeout, completionWait := t.completionWait, lastGranted := t.lastGranted
    faultLog := t.faultLog, lostCount := t.lostCount, pendingCauses := t.pendingCauses
    enabledCauses := t.enabledCauses, armed := t.armed, noticeRequester := t.noticeRequester, uPort := t.uPort
    dPort := t.dPort, discardedReplies := t.discardedReplies, wire := t.wire }
  log : s.logLaw → t.logLaw
  uPort : s.uPort.Kept t.uPort
  dPort : s.dPort.Kept t.dPort

/-! ### Channels -/

/-- A channel's record changes and keeps its laws: the tags it holds stay, its formed request stays or leaves a channel
that holds nothing. -/
structure Channel.Recast (old new : Channel) : Prop where
  laws : old.heldLaw → old.descriptorLaw → new.heldLaw ∧ new.descriptorLaw
  tagsHeld : new.tagsHeld = old.tagsHeld
  formed : new.formed = old.formed ∨ new.formed = none ∧ (old.state = .idle ∨ old.state = .halted)

/-- What forming a request may change of a channel's record besides its formed request and its tags held. -/
structure Channel.Formed (old new : Channel) : Prop where
  state : new.state = old.state
  tagsHeld : new.tagsHeld = old.tagsHeld
  descriptor : new.descriptor = old.descriptor
  first : new.firstDescriptor = old.firstDescriptor
  current : new.currentAddress = old.currentAddress
  remaining : new.wordsRemaining ≤ old.wordsRemaining

/-- A request that has passed the region check in this state. -/
structure State.Passed (s : State) (index : Fin 64) (generation : BitVec 8) : Prop where
  generation : generation = s.generation
  opened : (s.regions[index]).runState = .opened
  valid : ∃ i : Fin 64, (s.active[i]).valid = true

/-! ### The requester table -/

/-- The requester table changes and keeps the outstanding counts, the bounds of the limits and an OPEN manager. -/
structure requestersKept (v w : Vector RequesterRecord 16) : Prop where
  outstanding : ∀ q : Fin 16, (w[q]).outstanding = (v[q]).outstanding
  limit : ∀ q : Fin 16, 1 ≤ (v[q]).limit → (v[q]).limit ≤ 16 → 1 ≤ (w[q]).limit ∧ (w[q]).limit ≤ 16
  managed : (∃ q : Fin 16, (v[q]).state = .opened ∧ (v[q]).right = true) →
    ∃ q : Fin 16, (w[q]).state = .opened ∧ (w[q]).right = true

/-! ### Moves -/

/-- One move of the gate, as far as its laws can see. `wild` marks an event that no lawful state has: a packet at the U
port while the mode is LOADING or that port DOWN. -/
inductive Move (wild : Prop) : State → State → Prop where
  | aside {s t : State} (h : s.Aside t) : Move wild s t
  /-- The staging bank is written, in IDLE. -/
  | stages (s : State) (b : Bank) (idle : s.command.busy = false) : Move wild s { s with staging := b }
  /-- A command status is recorded. -/
  | records (s : State) (code : Byte) (operand : BitVec 16) (issuer : Fin 16) (result : Result)
      (valid : result ≠ .invalid) : Move wild s { s with command := CommandStatus.record code operand issuer result }
  /-- A commit begins. -/
  | begins (s : State) (operand : BitVec 16) (issuer : Option (Fin 16)) (live : s.mode ≠ .loading ∨ wild) :
      Move wild s { s with command := CommandStatus.commitBegun operand issuer }
  /-- A validation fails outside a load. -/
  | invalid (s : State) (i : Fin 64) (cause : ValidationCause) (other : Option (Fin 64))
      (suits : other.isSome = true ↔ cause = .overlap) (live : s.mode ≠ .loading) :
      Move wild s { s with command := s.command.commitInvalid i cause other }
  /-- A validation passes. -/
  | drains (s : State) (busy : s.command.busy = true) (validating : s.command.phase = some .validate)
      (passes : validate s.staging = none) :
      Move wild s { s with command := { s.command with phase := some .drain } }
  | swaps (s : State) : Move wild s s.swapIfDrained
  /-- A run state changes with the count kept. -/
  | turns (s : State) (r : Fin 64) (runState : RunState)
      (suits : (runState = .quiesced → (s.regions[r]).inFlight = 0) ∧ (runState = .quiescing → 0 < (s.regions[r]).inFlight)) :
      Move wild s (s.setRegion r { s.regions[r] with runState := runState })
  /-- The requester table changes, counts and managers kept. -/
  | rewrites (s : State) (v : Vector RequesterRecord 16) (kept : requestersKept s.requesters v)
      (states : (s.mode ≠ .loading ∨ wild) ∨ ∀ q : Fin 16, (v[q]).state = (s.requesters[q]).state ∨ (v[q]).state = .opened) :
      Move wild s { s with requesters := v }
  /-- A request is forwarded. -/
  | forwards (s : State) (r : Request) (kind : RequestKind) (p : Passage) (passed : s.Passed p.index p.generation)
      (room : s.issueQueue.length < 32) (tag : p.kind ≠ .pw → s.freeTags ≠ []) (same : kind ≠ .pw → p.kind = kind)
      (limit : kind ≠ .pw → (s.requesters[r.requester]).outstanding < (s.requesters[r.requester]).limit) :
      Move wild s (s.forward r kind p)
  /-- A channel forms a request. -/
  | installs (s : State) (c : Fin 2) (e : IssueEntry) (copyWrite : Bool) (change : Option (Fin 48) → Channel → Channel)
      (passed : s.Passed e.index e.generation) (running : (s.channels[c]).running = true)
      (vacant : (s.channels[c]).formed = none) (untagged : e.tag = none)
      (room : e.kind ≠ .pw → (s.channels[c]).tagsHeld.length < 4)
      (suits : ∀ tag, (s.channels[c]).Formed (change tag (s.channels[c]))) :
      Move wild s (s.install c e copyWrite change)
  | takesTag (s : State) (c : Fin 2) : Move wild s (s.channelTakesTag c)
  /-- A channel's record changes outside its requests. -/
  | recasts (s : State) (c : Fin 2) (ch : Channel) (recast : (s.channels[c]).Recast ch)
      (live : (s.mode ≠ .loading ∨ wild) ∨ (s.channels[c]).state ≠ .idle ∨ ch.state = (s.channels[c]).state) :
      Move wild s (s.setChannel c ch)
  | stops (s : State) (c : Fin 2) (cause : HaltCause) (index : Option (Fin 64)) (address : Option Address)
      (running : (s.channels[c]).running = true) : Move wild s (s.enterDrain c cause index address)
  /-- The head of the issue queue is issued. -/
  | grantsQueue {s t : State} (e : IssueEntry) (rest : List IssueEntry) (head : s.issueQueue = e :: rest)
      (aside : State.Aside { s with issueQueue := rest } t) : Move wild s (t.settleIssue e)
  /-- The formed request of a channel is issued. -/
  | grantsChannel {s t : State} (c : Fin 2) (f : FormedRequest) (formed : (s.channels[c]).formed = some f)
      (ready : f.lacksTag = false) (aside : (s.setChannel c { s.channels[c] with formed := none }).Aside t) :
      Move wild s (t.settleIssue f.entry)
  /-- A tag that no channel and no queue holds becomes FREE. -/
  | frees (s : State) (t : Fin 48) (used : (s.tags[t]).state ≠ .free) (issued : (s.tags[t]).state ≠ .queued)
      (other : (s.tags[t]).state = .waiting → (s.tags[t]).owner ≠ .channel) : Move wild s (s.freeTag t)
  /-- A tag that no channel holds expires. -/
  | expires (s : State) (t : Fin 48) (other : (s.tags[t]).owner ≠ .channel) : Move wild s (s.expireTag t)
  /-- A channel's tag is answered. -/
  | answers (s : State) (t : Fin 48) (waiting : (s.tags[t]).state = .waiting)
      (owner : (s.tags[t]).owner = .channel) :
      Move wild s (((s.freeTag t).setChannel (s.tags[t]).ownerChannel
        ((s.channels[(s.tags[t]).ownerChannel]).endTag t)).haltIfEmpty (s.tags[t]).ownerChannel)
  /-- A channel's tag expires. -/
  | lapses {s u : State} (t : Fin 48) (waiting : (s.tags[t]).state = .waiting)
      (owner : (s.tags[t]).owner = .channel) (aside : (s.expireTag t).Aside u) :
      Move wild s ((u.setChannel (s.tags[t]).ownerChannel
        ((s.channels[(s.tags[t]).ownerChannel]).endTag t)).haltIfEmpty (s.tags[t]).ownerChannel)
  /-- The entries of a requester leave the issue queue (R47). -/
  | flushes (s : State) (q : Fin 16) :
      Move wild s ((s.issueQueue.filter (fun e => e.requester == q)).foldl State.flushUntagged
        ((List.finRange 48).foldl (State.flushTag s.issueQueue q)
          { s with issueQueue := s.issueQueue.filter (fun e => e.requester != q) }))
  | loses (s : State) : Move wild s (s.takeLoss .d)
  /-- A port leaves its state for INIT. -/
  | restarts (s : State) (p : Port) (alive : (s.port p).state ≠ .down ∨ s.uPort.state ≠ .down ∨ wild) :
      Move wild s (s.downAndInit p)
  | popsReply (s : State) (r : Reply) (rest : List Reply) (head : s.replyQueue = r :: rest) :
      Move wild s { s with replyQueue := rest }

/-- A reply may be placed: a slot is free, or replies are discarded (R160). -/
def State.slotFree (s : State) : Prop := s.uPort.state = .up → s.replyQueue.length < 32

/-- A move, or a reply where one may be placed. -/
inductive Deed (wild : Prop) : State → State → Prop where
  | move {s t : State} (h : Move wild s t) : Deed wild s t
  | reply (s : State) (r : Reply) (slot : s.slotFree) : Deed wild s (s.placeReply r)

/-- Finitely many steps of a relation, one after another. -/
inductive StepRun {α : Type} (step : α → α → Prop) (a : α) : α → Prop where
  | refl : StepRun step a a
  | tail {b c : α} (run : StepRun step a b) (next : step b c) : StepRun step a c

theorem StepRun.single {α : Type} {step : α → α → Prop} {a b : α} (next : step a b) : StepRun step a b := .tail .refl next

theorem StepRun.trans {α : Type} {step : α → α → Prop} {a b c : α} (run : StepRun step a b) (more : StepRun step b c) :
    StepRun step a c := by
  induction more with
  | refl => exact run
  | tail _ next ih => exact .tail ih next

theorem StepRun.head {α : Type} {step : α → α → Prop} {a b c : α} (next : step a b) (run : StepRun step b c) :
    StepRun step a c := (StepRun.single next).trans run

/-- A run of moves. -/
abbrev Moves (wild : Prop) : State → State → Prop := StepRun (Move wild)

/-- A run of moves and replies. -/
abbrev Deeds (wild : Prop) : State → State → Prop := StepRun (Deed wild)

/-- An event that is no run of moves. -/
inductive Whole : State → State → Prop where
  | powersOn (s : State) : Whole s s.powerOn
  | startsUp (s u : State) (queue : u.pending = s.pending) : Whole s u.startUp
  /-- A word of the image is gathered. -/
  | gathers (s : State) (words : List Word) (w : Word) (reading : s.loader = some words) :
      Whole s { s with loader := some (words ++ [w]) }
  /-- The words of the image fail a check. -/
  | badImage (s : State) (words : List Word) (cause : ImageCause) (reading : s.loader = some words) :
      Whole s (s.endRead.failLoad cause none none)
  /-- The words of the image pass every check. -/
  | goodImage (s : State) (words : List Word) (w : Word) (reading : s.loader = some words)
      (good : judgeImage (words ++ [w]) = .good) : Whole s (s.loadImage (words ++ [w]))
  /-- The validation of a load fails. -/
  | badBank (s : State) (i : Fin 64) (cause : ValidationCause) (other : Option (Fin 64))
      (suits : other.isSome = true ↔ cause = .overlap) (loading : s.mode = .loading) (busy : s.command.busy = true) :
      Whole s (s.validationFails i cause other)
  /-- A port enters UP. -/
  | comesUp (s : State) (p : Port) (credit : Nat) (bound : credit ≤ 64) (init : (s.port p).state = .init) :
      Whole s (((s.updatePort p (fun l => l.enterUp credit)).raise .link).grantAfterLoading p)

end Sys2Proof.Machine

/-! The laws of one port, change by change (R146, R152 to R159). -/

namespace Sys2Proof.Machine

/-! ### The shape of a port's law -/

/-- A port in UP keeps its law when its store, its replay and its credit do. -/
theorem LinkPort.law_of_up {l : LinkPort} (up : l.state = .up) (store : l.storeLaw) (replay : l.replayLaw)
    (credit : l.creditLaw) (withhold : l.withholdLaw) (due : l.initDue = none) : l.law :=
  ⟨fun down => absurd up down, store, replay, credit, withhold, by simp [up, due]⟩

/-- A port in UP has no INIT due. -/
theorem LinkPort.law.initDue_of_up {l : LinkPort} (law : l.law) (up : l.state = .up) : l.initDue = none := by
  obtain ⟨-, -, -, -, -, due⟩ := law
  simpa [up] using due

/-- A change of a port in UP is kept when it keeps the store, the replay and the credit. -/
theorem LinkPort.Kept.of_up {l m : LinkPort} (up : l.state = .up) (state : m.state = l.state)
    (withholds : m.withholds = l.withholds) (due : m.initDue = l.initDue)
    (inbound : l.inbound = [] → l.allowance = 0 → m.inbound = []) (store : l.storeLaw → m.storeLaw)
    (replay : l.storeLaw → l.replayLaw → m.replayLaw) (credit : l.creditLaw → m.creditLaw)
    (withhold : l.withholdLaw → m.withholdLaw) : l.Kept m where
  law := fun law => by
    have none := law.initDue_of_up up
    obtain ⟨-, lawStore, lawReplay, lawCredit, lawWithhold, -⟩ := law
    exact LinkPort.law_of_up (state.trans up) (store lawStore) (replay lawStore lawReplay) (credit lawCredit)
      (withhold lawWithhold) (due.trans none)
  state := state
  withholds := withholds
  inbound := inbound

theorem LinkPort.Kept.trans {l m n : LinkPort} (h : l.Kept m) (k : m.Kept n)
    (allowance : l.allowance = 0 → m.allowance = 0) : l.Kept n where
  law := fun law => k.law (h.law law)
  state := k.state.trans h.state
  withholds := k.withholds.trans h.withholds
  inbound := fun empty zero => k.inbound (h.inbound empty zero) (allowance zero)

/-! ### Changes that leave every lawful field -/

theorem LinkPort.Kept.count (l : LinkPort) (f : PortCounters → PortCounters) : l.Kept (l.count f) :=
  ⟨id, rfl, rfl, fun h _ => h⟩

theorem LinkPort.Kept.counters (l : LinkPort) (c : PortCounters) : l.Kept { l with counters := c } :=
  ⟨id, rfl, rfl, fun h _ => h⟩

theorem LinkPort.Kept.retrySent {l : LinkPort} (up : l.state = .up) (b : Bool) : l.Kept { l with retrySent := b } :=
  .of_up up rfl rfl rfl (fun h _ => h) id (fun _ => id) id id

theorem LinkPort.Kept.ackOwed {l : LinkPort} (up : l.state = .up) (b : Bool) : l.Kept { l with ackOwed := b } :=
  .of_up up rfl rfl rfl (fun h _ => h) id (fun _ => id) id id

theorem LinkPort.Kept.initDue {l : LinkPort} (due : l.initDue ≠ none) (next : Word) :
    l.Kept { l with initDue := some next } where
  law := fun ⟨cleared, store, replay, credit, withhold, iff⟩ =>
    ⟨cleared, store, replay, credit, withhold, by
      have init := iff.mp (Option.isSome_iff_ne_none.mpr due)
      simp [init]⟩
  state := rfl
  withholds := rfl
  inbound := fun h _ => h

/-! ### Credit and the inbound buffer -/

theorem LinkPort.Kept.accept {l : LinkPort} (up : l.state = .up) (packet : List Word) (allowed : l.allowance ≠ 0) :
    l.Kept (l.accept packet) :=
  .of_up up rfl rfl rfl (fun _ zero => absurd zero allowed) id (fun _ => id)
    (fun ⟨sum, peer, ceiling, advertised⟩ => ⟨by simp [LinkPort.accept]; omega, peer, ceiling, advertised⟩)
    (fun withhold holds => absurd (withhold holds).2.1 allowed)

/-- A packet that leaves the inbound buffer leaves its slot as credit owed. -/
theorem LinkPort.Kept.dequeue {l : LinkPort} (filled : l.inbound ≠ []) :
    l.Kept { l with inbound := l.inbound.drop 1, owedCredit := l.owedCredit + 1 } where
  law := fun ⟨cleared, store, replay, ⟨sum, peer, ceiling, advertised⟩, withhold, due⟩ => by
    have length := List.length_pos_iff.mpr filled
    refine ⟨fun down => ?_, store, replay, ⟨by simp; omega, peer, ceiling, advertised⟩, fun holds => ?_, due⟩
    · obtain ⟨-, -, -, -, -, -, -, -, -, -, -, -, empty⟩ := cleared down
      exact absurd empty filled
    · obtain ⟨-, -, -, empty⟩ := withhold holds
      exact absurd empty filled
  state := rfl
  withholds := rfl
  inbound := fun empty _ => absurd empty filled

theorem LinkPort.Kept.peerCredit {l : LinkPort} (up : l.state = .up) (k : Nat) :
    l.Kept { l with peerCredit := min (l.peerCredit + k) l.peerCeiling } :=
  .of_up up rfl rfl rfl (fun h _ => h) id (fun _ => id)
    (fun ⟨sum, _, ceiling, advertised⟩ => ⟨sum, Nat.min_le_right _ _, ceiling, advertised⟩) id

theorem LinkPort.Kept.owedCredit {l : LinkPort} (up : l.state = .up) (owed : 0 < l.owedCredit) {k : Nat}
    (bound : k ≤ l.owedCredit) :
    l.Kept { l with allowance := l.allowance + k, owedCredit := l.owedCredit - k } :=
  .of_up up rfl rfl rfl (fun h _ => h) id (fun _ => id)
    (fun ⟨sum, peer, ceiling, advertised⟩ => ⟨by simp; omega, peer, ceiling, advertised⟩)
    (fun withhold holds => by
      obtain ⟨-, -, zero, -⟩ := withhold holds
      omega)

/-! ### The replay store -/

/-- The numbers of the units that stay when the oldest `k` leave. -/
theorem LinkPort.storeLaw.drop {l : LinkPort} (law : l.storeLaw) (k : Nat) (m : LinkPort)
    (store : m.replayStore = l.replayStore.drop k) (next : m.nextSeq = l.nextSeq) : m.storeLaw := by
  obtain ⟨length, wrapped, seqs⟩ := law
  refine ⟨by rw [store, List.length_drop]; omega, fun u mem => wrapped u (List.mem_of_mem_drop (store ▸ mem)), ?_⟩
  rw [store, List.map_drop, seqs, ← List.map_drop, List.length_drop, next]
  apply List.ext_getElem
  · simp
  · intro i hi _
    simp only [List.getElem_map, List.getElem_drop, List.getElem_range]
    congr 2
    omega

/-- A new unit stands after the stored ones in number. -/
theorem LinkPort.storeLaw.append {l : LinkPort} (law : l.storeLaw) (room : l.replayStore.length < 16)
    (packet : List Word) (m : LinkPort) (store : m.replayStore = l.replayStore ++ [wrapUnit l.nextSeq packet])
    (next : m.nextSeq = l.nextSeq + 1#7) : m.storeLaw := by
  obtain ⟨-, wrapped, seqs⟩ := law
  refine ⟨by rw [store, List.length_append]; exact room, fun u mem => ?_, ?_⟩
  · rw [store, List.mem_append, List.mem_singleton] at mem
    obtain old | rfl := mem
    · exact wrapped u old
    · rfl
  · rw [store, List.map_append, seqs, List.length_append, List.length_singleton, List.range_succ, List.map_append, next]
    congr 1
    · apply List.map_congr_left
      intro i hi
      have := List.mem_range.mp hi
      rw [show l.replayStore.length + 1 - i = (l.replayStore.length - i) + 1 by omega, BitVec.ofNat_add]
      bv_omega
    · have back : l.nextSeq + 1#7 - 1#7 = l.nextSeq := by bv_omega
      simp [wrapUnit, back]

theorem LinkPort.Kept.sent {l : LinkPort} (can : l.canSend = true) (packet : List Word) (now : Word) :
    l.Kept (l.sent (wrapUnit l.nextSeq packet) now) := by
  simp only [LinkPort.canSend, Bool.and_eq_true, beq_iff_eq, decide_eq_true_eq, Option.isNone_iff_eq_none] at can
  obtain ⟨⟨⟨up, credit⟩, room⟩, idle⟩ := can
  refine .of_up up rfl rfl rfl (fun h _ => h) (fun store => store.append room packet _ rfl rfl) (fun _ => ?_) ?_ id
  · rintro ⟨run, -, timer⟩
    refine ⟨run, by simp [LinkPort.sent, idle], ?_⟩
    cases stored : l.replayStore with
    | nil => simp [LinkPort.sent, stored, idle]
    | cons u rest => simp [LinkPort.sent, stored, idle, timer]
  · rintro ⟨sum, peer, ceiling, advertised⟩
    exact ⟨sum, Nat.le_trans (Nat.sub_le _ _) peer, ceiling, advertised⟩

theorem LinkPort.Kept.takeAck {l : LinkPort} (up : l.state = .up) (n : BitVec 7) (now : Word) :
    l.Kept (l.takeAck n now) := by
  unfold LinkPort.takeAck
  split
  case h_2 => exact .refl l
  case h_1 k _ =>
    refine .of_up up rfl rfl rfl (fun h _ => h) (fun store => store.drop k _ rfl rfl) (fun _ => ?_) id id
    rintro ⟨-, left, timer⟩
    refine ⟨Nat.zero_le _, ?_, ?_⟩
    · simp only [LinkPort.removeAcknowledged]
      split
      · simp
      next some_left =>
        intro i mem
        simp only [Option.mem_def, Option.map_eq_some_iff] at mem
        obtain ⟨resent, replay, rfl⟩ := mem
        have bound := left resent replay
        rw [List.isEmpty_iff, List.drop_eq_nil_iff] at some_left
        rw [List.length_drop]
        omega
    · by_cases gone : l.replayStore.drop k = []
      · simp [LinkPort.removeAcknowledged, gone]
      · have stored : l.replayStore ≠ [] := fun nil => gone (by simp [nil])
        cases replay : l.replay with
        | none => simp [LinkPort.removeAcknowledged, gone, replay]
        | some i => simp [LinkPort.removeAcknowledged, gone, replay, timer, stored]

theorem LinkPort.Kept.beginReplay {l : LinkPort} (up : l.state = .up) (run : l.retryRun + 1 < 5)
    (stored : l.replayStore ≠ []) : l.Kept l.beginReplay :=
  .of_up up rfl rfl rfl (fun h _ => h) id
    (fun _ _ => ⟨by simp [LinkPort.beginReplay]; omega,
      by simpa [LinkPort.beginReplay] using List.length_pos_iff.mpr stored, by simp [LinkPort.beginReplay]⟩) id id

theorem LinkPort.Kept.resent {l : LinkPort} (up : l.state = .up) {i : Nat} (replay : l.replay = some i)
    (stored : i < l.replayStore.length) (now : Word) : l.Kept (l.resent i now) := by
  have filled : l.replayStore ≠ [] := List.ne_nil_of_length_pos (Nat.zero_lt_of_lt stored)
  unfold LinkPort.resent
  dsimp only
  split
  next more =>
    refine .of_up up rfl rfl rfl (fun h _ => h) id (fun _ ⟨run, _, timer⟩ => ⟨run, by simpa [LinkPort.count] using more, ?_⟩) id id
    simpa [LinkPort.count, replay] using timer
  next =>
    exact .of_up up rfl rfl rfl (fun h _ => h) id
      (fun _ ⟨run, _, _⟩ => ⟨run, by simp, by simp [LinkPort.count, filled]⟩) id id

/-! ### Entering INIT and UP -/

theorem LinkPort.law_enterInit (l : LinkPort) (advertised : Nat) (now : Word)
    (advertises : advertised = 0 ∨ advertised = 16) : (l.enterDown.enterInit advertised now).law := by
  refine ⟨fun _ => ?_, ?_, ?_, ?_, ?_, ?_⟩
  · simp [LinkPort.enterInit, LinkPort.enterDown, LinkPort.reset, LinkPort.cleared]
  · simp [LinkPort.enterInit, LinkPort.enterDown, LinkPort.reset, LinkPort.storeLaw]
  · simp [LinkPort.enterInit, LinkPort.enterDown, LinkPort.reset, LinkPort.replayLaw]
  · simpa [LinkPort.enterInit, LinkPort.enterDown, LinkPort.reset, LinkPort.creditLaw] using advertises
  · simp [LinkPort.enterInit, LinkPort.enterDown, LinkPort.reset, LinkPort.withholdLaw]
  · simp [LinkPort.enterInit]

theorem LinkPort.law_enterUp {l : LinkPort} (law : l.law) (init : l.state = .init) {credit : Nat}
    (bound : credit ≤ 64) : (l.enterUp credit).law := by
  obtain ⟨cleared, store, replay, ⟨-, -, -, advertises⟩, withhold, -⟩ := law
  obtain ⟨-, -, -, -, -, -, -, -, -, -, owed, -, inbound⟩ := cleared (by simp [init])
  refine LinkPort.law_of_up rfl store replay ⟨?_, ?_, ?_, advertises⟩ (fun holds => ?_) rfl
  · simp [LinkPort.enterUp, owed, inbound]
    omega
  · simp only [LinkPort.enterUp]
    split <;> omega
  · simp only [LinkPort.enterUp]
    split <;> simp [bound]
  · obtain ⟨zero, -⟩ := withhold holds
    exact ⟨zero, zero, owed, inbound⟩

/-- The late grant of a port that withholds (R158). -/
theorem LinkPort.law_granted {l : LinkPort} (law : l.law) (up : l.state = .up) (holds : l.withholds = true) :
    LinkPort.law { l with allowance := l.allowance + 16, withholds := false } := by
  have due := law.initDue_of_up up
  obtain ⟨-, store, replay, ⟨-, peer, ceiling, advertises⟩, withhold, -⟩ := law
  obtain ⟨-, allowance, owed, inbound⟩ := withhold holds
  exact LinkPort.law_of_up up store replay ⟨by simp [allowance, owed, inbound], peer, ceiling, advertises⟩
    (fun no => absurd no Bool.false_ne_true) due

end Sys2Proof.Machine

/-! What the operations inside an event leave of the banks, the command unit, the mode and the ports: nothing but swaps
touches them (R17, R18). -/

namespace Sys2Proof.Machine

/-! ### Calm changes and swaps -/

/-- The banks, the command unit, the mode, the loader, the ports and the two outer queues stay as they are. -/
structure State.Calm (s t : State) : Prop where
  resetHeld : t.resetHeld = s.resetHeld
  mode : t.mode = s.mode
  loader : t.loader = s.loader
  active : t.active = s.active
  staging : t.staging = s.staging
  command : t.command = s.command
  uPort : t.uPort = s.uPort
  dPort : t.dPort = s.dPort
  replyQueue : t.replyQueue = s.replyQueue
  pending : t.pending = s.pending

theorem State.Calm.refl (s : State) : s.Calm s := ⟨rfl, rfl, rfl, rfl, rfl, rfl, rfl, rfl, rfl, rfl⟩

theorem State.Calm.trans {s t u : State} (h : s.Calm t) (k : t.Calm u) : s.Calm u where
  resetHeld := k.resetHeld.trans h.resetHeld
  mode := k.mode.trans h.mode
  loader := k.loader.trans h.loader
  active := k.active.trans h.active
  staging := k.staging.trans h.staging
  command := k.command.trans h.command
  uPort := k.uPort.trans h.uPort
  dPort := k.dPort.trans h.dPort
  replyQueue := k.replyQueue.trans h.replyQueue
  pending := k.pending.trans h.pending

/-- Calm changes and swaps, each swap that of a drained commit. -/
inductive State.Weighs : State → State → Prop where
  | calm {s t : State} (h : s.Calm t) : State.Weighs s t
  | swap (s : State) (drain : s.command.phase = some .drain) (drained : s.previousTotal = 0) : State.Weighs s s.swap
  | trans {s t u : State} (h : State.Weighs s t) (k : State.Weighs t u) : State.Weighs s u

theorem State.Weighs.refl (s : State) : s.Weighs s := .calm (.refl s)

theorem State.weighs_swapIfDrained (s : State) : s.Weighs s.swapIfDrained := by
  obtain ⟨drain, zero, same⟩ | ⟨-, same⟩ := s.swapIfDrained_cases <;> rw [same]
  · exact .swap s drain zero
  · exact .refl s

/-- What swaps leave of the state: the U port keeps all but its credit. -/
structure State.Outer (s t : State) : Prop where
  resetHeld : t.resetHeld = s.resetHeld
  loader : t.loader = s.loader
  staging : t.staging = s.staging
  uState : t.uPort.state = s.uPort.state
  uInbound : t.uPort.inbound = s.uPort.inbound
  dPort : t.dPort = s.dPort
  replyQueue : t.replyQueue = s.replyQueue
  pending : t.pending = s.pending

theorem State.Weighs.outer {s t : State} (h : s.Weighs t) : s.Outer t := by
  induction h with
  | calm h =>
    exact ⟨h.resetHeld, h.loader, h.staging, by rw [h.uPort], by rw [h.uPort], h.dPort, h.replyQueue, h.pending⟩
  | swap s _ _ => rw [State.swap_frame]; exact ⟨rfl, rfl, rfl, rfl, rfl, rfl, rfl, rfl⟩
  | trans _ _ h k =>
    exact ⟨k.resetHeld.trans h.resetHeld, k.loader.trans h.loader, k.staging.trans h.staging,
      k.uState.trans h.uState, k.uInbound.trans h.uInbound, k.dPort.trans h.dPort,
      k.replyQueue.trans h.replyQueue, k.pending.trans h.pending⟩

/-! ### Calm operations -/

theorem State.calm_takeFault (f : FaultReport) (s : State) : s.Calm (s.takeFault f) := by
  rw [State.takeFault_frame]
  exact ⟨rfl, rfl, rfl, rfl, rfl, rfl, rfl, rfl, rfl, rfl⟩

theorem State.calm_setTag (t : Fin 48) (r : TagRecord) (s : State) : s.Calm (s.setTag t r) :=
  ⟨rfl, rfl, rfl, rfl, rfl, rfl, rfl, rfl, rfl, rfl⟩

theorem State.calm_setChannel (c : Fin 2) (ch : Channel) (s : State) : s.Calm (s.setChannel c ch) :=
  ⟨rfl, rfl, rfl, rfl, rfl, rfl, rfl, rfl, rfl, rfl⟩

theorem State.calm_haltIfEmpty (c : Fin 2) (s : State) : s.Calm (s.haltIfEmpty c) := by
  rw [State.haltIfEmpty_frame]
  exact ⟨rfl, rfl, rfl, rfl, rfl, rfl, rfl, rfl, rfl, rfl⟩

theorem State.calm_issueTag (t : Fin 48) (s : State) : s.Calm (s.issueTag t) := by
  rw [State.issueTag_frame]
  exact ⟨rfl, rfl, rfl, rfl, rfl, rfl, rfl, rfl, rfl, rfl⟩

theorem State.calm_putFree (t : Fin 48) (s : State) : s.Calm (s.putFree t) :=
  ⟨rfl, rfl, rfl, rfl, rfl, rfl, rfl, rfl, rfl, rfl⟩

theorem State.calm_takeTag (r : TagRecord) (s : State) : s.Calm (s.takeTag r).2 := by
  rw [State.takeTag_frame]
  exact ⟨rfl, rfl, rfl, rfl, rfl, rfl, rfl, rfl, rfl, rfl⟩

theorem State.calm_install (c : Fin 2) (e : IssueEntry) (copyWrite : Bool)
    (change : Option (Fin 48) → Channel → Channel) (s : State) : s.Calm (s.install c e copyWrite change) := by
  rw [State.install_frame]
  exact ⟨rfl, rfl, rfl, rfl, rfl, rfl, rfl, rfl, rfl, rfl⟩

theorem State.calm_takeForwardTag (r : Request) (kind : RequestKind) (p : Passage) (s : State) :
    s.Calm (s.takeForwardTag r kind p).2 := by
  unfold State.takeForwardTag
  split
  · exact .refl s
  · exact State.calm_takeTag _ s

theorem State.calm_forward (r : Request) (kind : RequestKind) (p : Passage) (s : State) :
    s.Calm (s.forward r kind p) := by
  have taken := State.calm_takeForwardTag r kind p s
  unfold State.forward
  generalize s.takeForwardTag r kind p = result at taken
  exact taken.trans ⟨rfl, rfl, rfl, rfl, rfl, rfl, rfl, rfl, rfl, rfl⟩

theorem State.calm_channelTakesTag (c : Fin 2) (s : State) : s.Calm (s.channelTakesTag c) := by
  unfold State.channelTakesTag
  split
  next f _ =>
    split
    · split
      next t s' taken =>
        have calm := State.calm_takeTag (channelTag c f.entry) s
        rw [taken] at calm
        exact calm.trans (State.calm_setChannel c _ s')
      · exact .refl s
    · exact .refl s
  · exact .refl s

/-! ### Operations in which items end -/

theorem State.weighs_fall (r : Fin 64) (g : BitVec 8) (s : State) : s.Weighs (s.fall r g) := by
  refine .trans (.calm (t := (s.fallIndex r).fallTotal g) ?_) (State.weighs_swapIfDrained _)
  rw [State.fallTotal_frame, State.fallIndex_frame]
  exact ⟨rfl, rfl, rfl, rfl, rfl, rfl, rfl, rfl, rfl, rfl⟩

theorem State.weighs_endCounts (r : TagRecord) (s : State) : s.Weighs (s.endCounts r) := by
  have lowered : s.Calm (if r.owes then s.lowerOutstanding r.ownerRequester else s) := by
    split <;> exact ⟨rfl, rfl, rfl, rfl, rfl, rfl, rfl, rfl, rfl, rfl⟩
  unfold State.endCounts
  dsimp only
  split
  · exact .trans (.calm lowered) (State.weighs_fall _ _ _)
  · exact .calm lowered

theorem State.weighs_freeTag (t : Fin 48) (s : State) : s.Weighs (s.freeTag t) := by
  unfold State.freeTag
  split
  · exact .refl s
  · exact .trans (.calm (State.calm_putFree t s)) (State.weighs_endCounts _ _)

theorem State.weighs_expireTag (t : Fin 48) (s : State) : s.Weighs (s.expireTag t) := by
  unfold State.expireTag
  split
  · exact .trans (.calm (State.calm_setTag t _ s)) (State.weighs_endCounts _ _)
  · exact .refl s

theorem State.weighs_settleIssue (e : IssueEntry) (s : State) : s.Weighs (s.settleIssue e) := by
  unfold State.settleIssue
  split
  · exact .calm (State.calm_issueTag _ s)
  · exact State.weighs_fall _ _ s

theorem State.weighs_dropFormed (f : Option FormedRequest) (s : State) : s.Weighs (s.dropFormed f) := by
  unfold State.dropFormed
  repeat' split
  · exact State.weighs_fall _ _ s
  all_goals exact .refl s

theorem State.weighs_enterDrain (c : Fin 2) (cause : HaltCause) (index : Option (Fin 64)) (address : Option Address)
    (s : State) : s.Weighs (s.enterDrain c cause index address) := by
  unfold State.enterDrain
  dsimp only
  split
  · exact .trans (State.weighs_dropFormed _ s)
      (.calm ((State.calm_setChannel c _ _).trans (State.calm_haltIfEmpty c _)))
  · exact .calm (State.calm_haltIfEmpty c s)

/-- A fold of operations that weigh a swap weighs swaps. -/
theorem State.weighs_foldl {α : Type} {f : State → α → State} (each : ∀ s x, State.Weighs s (f s x)) (l : List α)
    (s : State) : s.Weighs (l.foldl f s) := by
  induction l generalizing s with
  | nil => exact .refl s
  | cons x rest step => exact .trans (each s x) (step _)

theorem State.weighs_flushTag (queue : List IssueEntry) (q : Fin 16) (s : State) (t : Fin 48) :
    s.Weighs (s.flushTag queue q t) := by
  unfold State.flushTag
  split
  · exact State.weighs_freeTag t s
  · exact .refl s

theorem State.weighs_flushUntagged (s : State) (e : IssueEntry) : s.Weighs (s.flushUntagged e) := by
  unfold State.flushUntagged
  split
  · exact State.weighs_fall _ _ s
  · exact .refl s

theorem State.calm_loseChannel (c : Fin 2) (s : State) : s.Calm (s.loseChannel c) := by
  unfold State.loseChannel
  dsimp only
  repeat' split
  · rw [State.haltNow_frame]; exact ⟨rfl, rfl, rfl, rfl, rfl, rfl, rfl, rfl, rfl, rfl⟩
  · rw [State.haltNow_frame]; exact ⟨rfl, rfl, rfl, rfl, rfl, rfl, rfl, rfl, rfl, rfl⟩
  · exact .refl s

theorem State.calm_closeTags (s : State) : s.Calm s.closeTags := by
  rw [State.closeTags_frame]
  exact ⟨rfl, rfl, rfl, rfl, rfl, rfl, rfl, rfl, rfl, rfl⟩

theorem State.calm_emptyIssueQueue (s : State) : s.Calm s.emptyIssueQueue := by
  rw [State.emptyIssueQueue_frame]
  exact ⟨rfl, rfl, rfl, rfl, rfl, rfl, rfl, rfl, rfl, rfl⟩

theorem State.weighs_endAllInFlight (s : State) : s.Weighs s.endAllInFlight := by
  unfold State.endAllInFlight
  dsimp only
  refine .trans (.calm ?_) (State.weighs_swapIfDrained _)
  split <;> exact ⟨rfl, rfl, rfl, rfl, rfl, rfl, rfl, rfl, rfl, rfl⟩

theorem State.weighs_takeLoss (s : State) : s.Weighs (s.takeLoss .d) :=
  .trans (.calm ((((State.calm_closeTags s).trans (State.calm_emptyIssueQueue _)).trans
    (State.calm_loseChannel 0 _)).trans (State.calm_loseChannel 1 _))) (State.weighs_endAllInFlight _)

/-! ### Asides -/

theorem State.Aside.slotFree {s t : State} (h : s.Aside t) (slot : s.slotFree) : t.slotFree := by
  intro up
  have same : t.replyQueue = s.replyQueue := by rw [h.frame]
  rw [same]
  exact slot (h.uPort.state ▸ up)

theorem State.logLaw_congr {s t : State} (log : t.faultLog = s.faultLog) (lost : t.lostCount = s.lostCount)
    (law : s.logLaw) : t.logLaw := by
  unfold State.logLaw at *
  rwa [log, lost]

/-- A port's change is an aside. -/
theorem State.Aside.port {s : State} (p : Port) {l : LinkPort} (kept : (s.port p).Kept l) :
    s.Aside (s.setPort p l) := by
  cases p with
  | u => exact ⟨rfl, id, kept, .refl _⟩
  | d => exact ⟨rfl, id, .refl _, kept⟩

/-- A change of fields that no law reads is an aside. -/
theorem State.Aside.of_frame {s t : State} (frame : t = { s with
    timeBase := t.timeBase, serialSelect := t.serialSelect, digests := t.digests, admissionWait := t.admissionWait
    replyTimeout := t.replyTimeout, completionWait := t.completionWait, lastGranted := t.lastGranted
    pendingCauses := t.pendingCauses, enabledCauses := t.enabledCauses, armed := t.armed
    noticeRequester := t.noticeRequester, discardedReplies := t.discardedReplies, wire := t.wire }) : s.Aside t where
  frame := by rw [frame]
  log := State.logLaw_congr (by rw [frame]) (by rw [frame])
  uPort := by rw [frame]; exact .refl _
  dPort := by rw [frame]; exact .refl _

/-! ### The fault log keeps its law (R114, R115) -/

theorem saturatingSucc_le {n : Nat} (bound : n ≤ 65535) : saturatingSucc n ≤ 65535 := by
  unfold saturatingSucc Config.saturation
  split <;> omega

theorem State.logLaw_addFault {s : State} (law : s.logLaw) (f : FaultReport) : (s.addFault f).logLaw := by
  obtain ⟨length, lost, repeats⟩ := law
  unfold State.addFault Config.logSlots
  split
  next room =>
    have grown : (s.faultLog ++ [newRecord f s.timeBase]).length ≤ 32 := by
      rw [List.length_append]
      exact room
    refine ⟨grown, lost, fun r mem => ?_⟩
    obtain old | rfl : r ∈ s.faultLog ∨ r = newRecord f s.timeBase := by simpa using mem
    · exact repeats r old
    · exact Nat.zero_le _
  next => exact ⟨length, saturatingSucc_le lost, repeats⟩

theorem State.logLaw_takeFault {s : State} (law : s.logLaw) (f : FaultReport) : (s.takeFault f).logLaw := by
  unfold State.takeFault
  split
  case h_2 => exact State.logLaw_addFault law f
  case h_1 newest last =>
    split
    case isFalse => exact State.logLaw_addFault law f
    case isTrue =>
      obtain ⟨rest, log⟩ := List.getLast?_eq_some_iff.mp last
      obtain ⟨length, lost, repeats⟩ := law
      rw [log] at length repeats
      refine ⟨by simpa [log] using length, lost, fun r mem => ?_⟩
      obtain old | rfl : r ∈ rest ∨ r = { newest with repeatCount := saturatingSucc newest.repeatCount } := by
        simpa [log] using mem
      · exact repeats r (List.mem_append_left _ old)
      · exact saturatingSucc_le (repeats newest (by simp))

theorem State.Aside.takeFault (f : FaultReport) (s : State) : s.Aside (s.takeFault f) where
  frame := by rw [State.takeFault_frame]
  log := fun law => State.logLaw_takeFault law f
  uPort := by rw [State.takeFault_frame]; exact .refl _
  dPort := by rw [State.takeFault_frame]; exact .refl _

/-- Records leave the log. -/
theorem State.Aside.logShrinks {s : State} {log : List FaultRecord} {lost : Nat} (sub : log.Sublist s.faultLog)
    (less : lost ≤ s.lostCount) : s.Aside { s with faultLog := log, lostCount := lost } where
  frame := rfl
  log := fun ⟨length, bound, repeats⟩ =>
    ⟨Nat.le_trans sub.length_le length, Nat.le_trans less bound, fun r mem => repeats r (sub.subset mem)⟩
  uPort := .refl _
  dPort := .refl _

/-! ### What every move leaves -/

theorem State.downAndInit_u (s : State) : s.downAndInit .u = { s with
    replyQueue := [], discardedReplies := (s.downAndInit .u).discardedReplies
    admissionWait := (s.downAndInit .u).admissionWait, completionWait := (s.downAndInit .u).completionWait
    uPort := s.uPort.enterDown.enterInit (s.advertisement .u) s.timeBase, wire := (s.downAndInit .u).wire } := rfl

theorem State.downAndInit_d (s : State) : s.downAndInit .d = { s with
    completionWait := none
    dPort := s.dPort.enterDown.enterInit (s.advertisement .d) s.timeBase, wire := (s.downAndInit .d).wire } := rfl

/-- What the moves that end or count items leave of the two outer queues and the ports. -/
theorem State.Outer.slotFree {s t : State} (h : s.Outer t) (slot : s.slotFree) : t.slotFree := by
  intro up
  rw [h.replyQueue]
  exact slot (h.uState ▸ up)

/-- A move either weighs swaps or leaves items and tags alone. -/
theorem Move.slotFree {wild : Prop} {s t : State} (move : Move wild s t) (slot : s.slotFree) : t.slotFree := by
  cases move with
  | aside h => exact h.slotFree slot
  | stages | records | begins | invalid | drains | rewrites | turns | recasts => exact slot
  | swaps => exact (State.weighs_swapIfDrained s).outer.slotFree slot
  | forwards r kind p => exact (State.Weighs.calm (State.calm_forward r kind p s)).outer.slotFree slot
  | installs c e copyWrite change =>
    exact (State.Weighs.calm (State.calm_install c e copyWrite change s)).outer.slotFree slot
  | takesTag c => exact (State.Weighs.calm (State.calm_channelTakesTag c s)).outer.slotFree slot
  | stops c cause index address => exact (State.weighs_enterDrain c cause index address s).outer.slotFree slot
  | grantsQueue e rest head aside => exact (State.weighs_settleIssue e _).outer.slotFree (aside.slotFree slot)
  | grantsChannel c f formed ready aside =>
    exact (State.weighs_settleIssue f.entry _).outer.slotFree (aside.slotFree slot)
  | frees t => exact (State.weighs_freeTag t s).outer.slotFree slot
  | expires t => exact (State.weighs_expireTag t s).outer.slotFree slot
  | answers t =>
    exact (State.Weighs.calm (State.calm_haltIfEmpty _ _)).outer.slotFree
      ((State.weighs_freeTag t s).outer.slotFree slot)
  | lapses t _ _ aside =>
    exact (State.Weighs.calm (State.calm_haltIfEmpty _ _)).outer.slotFree
      (aside.slotFree ((State.weighs_expireTag t s).outer.slotFree slot))
  | flushes q =>
    exact (State.weighs_foldl State.weighs_flushUntagged _ _).outer.slotFree
      ((State.weighs_foldl (State.weighs_flushTag s.issueQueue q) _ _).outer.slotFree slot)
  | loses => exact (State.weighs_takeLoss s).outer.slotFree slot
  | restarts p =>
    cases p with
    | u => intro up; cases up
    | d => exact slot
  | popsReply r rest head =>
    intro up
    have short := slot up
    rw [head, List.length_cons] at short
    exact Nat.lt_of_succ_lt short

theorem Moves.slotFree {wild : Prop} {s t : State} (moves : Moves wild s t) (slot : s.slotFree) : t.slotFree := by
  induction moves with
  | refl => exact slot
  | tail _ move ih => exact move.slotFree ih

theorem Moves.deeds {wild : Prop} {s t : State} (moves : Moves wild s t) : Deeds wild s t := by
  induction moves with
  | refl => exact .refl
  | tail _ move ih => exact ih.tail (.move move)

end Sys2Proof.Machine

/-! The link family, the channels and the arbiter as runs of moves. -/

namespace Sys2Proof.Machine

/-- An aside is a run of one move. -/
theorem State.Aside.moves {wild : Prop} {s t : State} (h : s.Aside t) : Moves wild s t := .single (.aside h)

/-- A change of fields that no law reads, as a run of moves. -/
theorem State.aside_raise (c : Cause) (s : State) : s.Aside (s.raise c) := .of_frame rfl

theorem moves_raise (wild : Prop) (c : Cause) (s : State) : Moves wild s (s.raise c) := (s.aside_raise c).moves

theorem moves_send (wild : Prop) (x : Sent) (s : State) : Moves wild s (s.send x) := State.Aside.moves (.of_frame rfl)

theorem moves_takeFault (wild : Prop) (f : FaultReport) (s : State) : Moves wild s (s.takeFault f) :=
  (State.Aside.takeFault f s).moves

theorem moves_noteAdmission (wild : Prop) (lacked : AdmissionWait → Bool) (s : State) :
    Moves wild s (s.noteAdmission lacked) :=
  State.Aside.moves (.of_frame rfl)

theorem moves_noteReplySlot (wild : Prop) (s : State) : Moves wild s s.noteReplySlot :=
  State.Aside.moves (.of_frame rfl)

/-- A kept change of a port is a run of one move. -/
theorem moves_updatePort (wild : Prop) {s : State} {p : Port} {f : LinkPort → LinkPort}
    (kept : (s.port p).Kept (f (s.port p))) : Moves wild s (s.updatePort p f) :=
  (State.Aside.port p kept).moves

/-- Something is sent, and the port changes. -/
theorem moves_sendSymbol_updatePort (wild : Prop) {s : State} {p : Port} (kind value : Byte) {f : LinkPort → LinkPort}
    (kept : (s.port p).Kept (f (s.port p))) : Moves wild s ((s.sendSymbol p kind value).updatePort p f) :=
  (moves_send wild _ s).trans (moves_updatePort wild (by cases p <;> exact kept))

/-! ### Resets of a port (R147) -/

/-- A port may be reset: it is not DOWN, or the U port is not, so that the pin is not held. -/
def State.alive (wild : Prop) (s : State) (p : Port) : Prop :=
  (s.port p).state ≠ .down ∨ s.uPort.state ≠ .down ∨ wild

theorem State.Aside.portState {s t : State} (h : s.Aside t) (p : Port) : (t.port p).state = (s.port p).state := by
  cases p with
  | u => exact h.uPort.state
  | d => exact h.dPort.state

theorem State.Aside.alive {s t : State} (h : s.Aside t) {wild : Prop} {p : Port} (alive : s.alive wild p) : t.alive wild p := by
  unfold State.alive
  rw [h.portState p, h.uPort.state]
  exact alive

theorem State.Outer.alive {s t : State} (h : s.Outer t) {wild : Prop} {p : Port} (alive : s.alive wild p) : t.alive wild p := by
  unfold State.alive at *
  cases p with
  | u => simpa [h.uState] using alive
  | d => simpa [h.uState, h.dPort] using alive

theorem State.alive_of_state {wild : Prop} {s : State} {p : Port} {state : PortState} (h : (s.port p).state = state)
    (up : state ≠ .down) : s.alive wild p :=
  .inl (h ▸ up)

theorem State.aside_announceReset (p : Port) (cause : ResetCause) (s : State) : s.Aside (s.announceReset p cause) := by
  unfold State.announceReset
  split
  · exact .of_frame rfl
  · exact .of_frame rfl

/-- The loss of a port is a run of moves that leaves the port resettable. -/
theorem moves_takeLoss (wild : Prop) (p : Port) {s : State} {q : Port} (alive : s.alive wild q) :
    Moves wild s (s.takeLoss p) ∧ (s.takeLoss p).alive wild q := by
  cases p with
  | u => exact ⟨State.Aside.moves (.of_frame rfl), alive⟩
  | d => exact ⟨.single (.loses s), (State.weighs_takeLoss s).outer.alive alive⟩

theorem moves_resetPort (wild : Prop) (p : Port) (cause : ResetCause) {s : State} (alive : s.alive wild p) :
    Moves wild s (s.resetPort p cause) := by
  have announced := s.aside_announceReset p cause
  unfold State.resetPort
  dsimp only
  split
  · have counted := State.Aside.port p (LinkPort.Kept.count ((s.announceReset p cause).port p)
      (fun c => { c with linkLosses := c.linkLosses + 1#32 }))
    have faulted := State.Aside.takeFault { kind := .linkReset, port := some p, detail := some (.reset cause) }
      ((s.announceReset p cause).updatePort p
        (fun l => l.count (fun c => { c with linkLosses := c.linkLosses + 1#32 })))
    obtain ⟨lost, stays⟩ := moves_takeLoss wild p
      ((State.aside_raise .link _).alive (faulted.alive (counted.alive (announced.alive alive))))
    exact (((announced.moves.trans counted.moves).trans (faulted.moves.trans (moves_raise wild .link _))).trans
      lost).tail (.restarts _ p stays)
  · exact announced.moves.tail (.restarts _ p (announced.alive alive))

/-! ### Arrivals -/

theorem moves_reportGap (wild : Prop) {p : Port} {s : State} (up : (s.port p).state = .up) :
    Moves wild s (s.reportGap p) := by
  unfold State.reportGap
  split
  · exact .refl
  · exact moves_sendSymbol_updatePort wild _ _ (.retrySent up true)

/-- A counted unit leaves the port in its state. -/
theorem moves_count (wild : Prop) (p : Port) (f : PortCounters → PortCounters) (s : State) :
    Moves wild s (s.updatePort p (fun l => l.count f)) ∧
      ((s.updatePort p (fun l => l.count f)).port p).state = (s.port p).state :=
  ⟨moves_updatePort wild (.count _ f), by cases p <;> rfl⟩

theorem moves_classUnit (wild : Prop) (p : Port) (bytes : List Byte) {s : State} (up : (s.port p).state = .up) :
    Moves wild s (s.classUnit p bytes) := by
  unfold State.classUnit
  split
  · obtain ⟨counted, state⟩ := moves_count wild p (fun c => { c with badUnits := c.badUnits + 1#32 }) s
    exact counted.trans (moves_reportGap wild (state.trans up))
  next seq packet _ =>
    dsimp only
    split
    · unfold State.takeInOrder
      split
      · exact moves_resetPort wild p _ (State.alive_of_state up (by decide))
      next allowed => exact moves_updatePort wild (.accept up packet allowed)
    · split
      · obtain ⟨counted, state⟩ := moves_count wild p (fun c => { c with gapUnits := c.gapUnits + 1#32 }) s
        exact counted.trans (moves_reportGap wild (state.trans up))
      · obtain ⟨counted, -⟩ := moves_count wild p (fun c => { c with duplicateUnits := c.duplicateUnits + 1#32 }) s
        exact counted.trans (moves_send wild _ _)

theorem moves_receiveUnit (wild : Prop) (p : Port) (bytes : List Byte) (s : State) :
    Moves wild s (s.receiveUnit p bytes) := by
  unfold State.receiveUnit
  split
  next up => exact moves_classUnit wild p bytes up
  · exact (moves_count wild p _ s).1
  · exact .refl

/-- An INIT brings a port in INIT to UP, and does otherwise no more than send. -/
theorem receiveInit_cases (wild : Prop) (p : Port) (value : Byte) (s : State) :
    Moves wild s (s.receiveInit p value) ∨ Whole s (s.receiveInit p value) := by
  unfold State.receiveInit
  split
  next init => exact .inr (.comesUp s p (initCredit value) (Nat.min_le_right _ _) init)
  · refine .inl ?_
    split
    · exact .refl
    · exact moves_send wild _ s
  · exact .inl .refl

theorem moves_receiveAck (wild : Prop) (p : Port) (n : BitVec 7) (s : State) : Moves wild s (s.receiveAck p n) := by
  unfold State.receiveAck
  split
  next up => exact moves_updatePort wild (.takeAck (by simpa using up) n _)
  · exact .refl

theorem moves_replayBegins (wild : Prop) {p : Port} {s : State} (up : (s.port p).state = .up)
    (stored : (s.port p).replayStore ≠ []) : Moves wild s (s.replayBegins p) := by
  unfold State.replayBegins
  split
  · exact moves_resetPort wild p _ (State.alive_of_state up (by decide))
  next few => exact moves_updatePort wild (.beginReplay up (by simpa using few) stored)

theorem moves_receiveRetry (wild : Prop) (p : Port) (n : BitVec 7) (s : State) :
    Moves wild s (s.receiveRetry p n) := by
  unfold State.receiveRetry
  split
  case isFalse => exact .refl
  case isTrue up =>
    have up : (s.port p).state = .up := by simpa using up
    have kept := LinkPort.Kept.takeAck up (n - 1#7) s.timeBase
    have acked : Moves wild s (s.updatePort p (fun l => l.takeAck (n - 1#7) s.timeBase)) :=
      moves_updatePort wild kept
    dsimp only
    split
    case h_2 => exact acked
    case h_1 head rest store =>
      split
      · refine acked.trans (moves_replayBegins wild ?_ (by simp [store]))
        rw [State.updatePort, State.port_setPort, kept.state, up]
      · exact acked

theorem moves_receiveCredit (wild : Prop) (p : Port) (k : Nat) (s : State) : Moves wild s (s.receiveCredit p k) := by
  unfold State.receiveCredit
  split
  next up => exact moves_updatePort wild (.peerCredit (by simpa using up) k)
  · exact .refl

theorem moves_receiveReset (wild : Prop) (p : Port) (s : State) : Moves wild s (s.receiveReset p) := by
  unfold State.receiveReset
  split
  next up => exact moves_resetPort wild p _ (State.alive_of_state up (by decide))
  next init => exact moves_resetPort wild p _ (State.alive_of_state init (by decide))
  · exact .refl

theorem moves_receiveBadSymbol (wild : Prop) (p : Port) (kind value check : Byte) (s : State) :
    Moves wild s (s.receiveBadSymbol p kind value check) := by
  unfold State.receiveBadSymbol
  split
  · exact (moves_count wild p _ s).1
  · exact .refl

/-! ### Sending -/

theorem moves_sendInitAgain (wild : Prop) (p : Port) (s : State) : Moves wild s (s.sendInitAgain p) := by
  unfold State.sendInitAgain
  split
  next due _ initDue =>
    split
    · exact moves_sendSymbol_updatePort wild _ _ (.initDue (by simp [initDue]) _)
    · exact .refl
  · exact .refl

theorem moves_ackTimerReached (wild : Prop) (p : Port) (s : State) : Moves wild s (s.ackTimerReached p) := by
  unfold State.ackTimerReached
  dsimp only
  split
  · split
    next h =>
      simp only [Bool.and_eq_true, beq_iff_eq, Bool.not_eq_true', List.isEmpty_eq_false_iff] at h
      obtain ⟨⟨⟨up, -⟩, stored⟩, -⟩ := h
      exact moves_replayBegins wild up stored
    · exact .refl
  · exact .refl

theorem moves_resendOne (wild : Prop) (p : Port) (s : State) : Moves wild s (s.resendOne p) := by
  unfold State.resendOne
  dsimp only
  split
  next i up replay =>
    split
    next u stored =>
      have bound : i < (s.port p).replayStore.length := (List.getElem?_eq_some_iff.mp stored).1
      exact (moves_send wild _ s).trans (moves_updatePort wild (by cases p <;> exact .resent up replay bound _))
    · exact .refl
  · exact .refl

theorem moves_sendAck (wild : Prop) (p : Port) (s : State) : Moves wild s (s.sendAck p) := by
  unfold State.sendAck
  dsimp only
  split
  next h =>
    simp only [Bool.and_eq_true, beq_iff_eq] at h
    exact moves_sendSymbol_updatePort wild _ _ (.ackOwed h.1 false)
  · exact .refl

theorem moves_sendOwedCredit (wild : Prop) (p : Port) (s : State) : Moves wild s (s.sendOwedCredit p) := by
  unfold State.sendOwedCredit State.sendCredit
  dsimp only
  split
  next h =>
    simp only [Bool.and_eq_true, beq_iff_eq, decide_eq_true_eq] at h
    obtain ⟨up, owed⟩ := h
    have kept := LinkPort.Kept.owedCredit up owed (Nat.min_le_left (s.port p).owedCredit Config.inboundSlots)
    cases p with
    | u => exact State.Aside.moves ⟨rfl, id, kept, .refl _⟩
    | d => exact State.Aside.moves ⟨rfl, id, .refl _, kept⟩
  · exact .refl

/-- A new packet of a port that can send is an aside. -/
theorem State.aside_sendPacket {p : Port} {s : State} (can : (s.port p).canSend = true) (packet : List Word) :
    s.Aside (s.sendPacket p packet) := by
  have kept := LinkPort.Kept.sent can packet s.timeBase
  cases p with
  | u => exact ⟨rfl, id, kept, .refl _⟩
  | d => exact ⟨rfl, id, .refl _, kept⟩

theorem moves_sendReply (wild : Prop) (s : State) : Moves wild s s.sendReply := by
  unfold State.sendReply
  split
  next r rest head =>
    split
    next can =>
      have sent := State.aside_sendPacket (s := { s with replyQueue := rest }) (p := .u) can (writeReply r)
      exact ((StepRun.single (Move.popsReply s r rest head)).trans sent.moves).trans
        (moves_noteReplySlot wild _)
    · exact .refl
  · exact .refl

/-! ### Requests that pass the region check (R8) -/

/-- What a passing region check says of its passage. -/
theorem State.regionCheck_pass {s : State} {address n : Nat} {kind : RequestKind} {q : Fin 16} {p : Passage}
    (pass : s.regionCheck address n kind q = .pass p) :
    lookup s.active (pageOf address) = some p.index ∧ (s.regions[p.index]).runState = .opened ∧
      p.kind = (s.active[p.index]).downstreamKind kind ∧ p.generation = s.generation := by
  unfold State.regionCheck at pass
  split at pass
  · cases pass
  next r found =>
    dsimp only at pass
    repeat' split at pass
    all_goals cases pass
    next opened => exact ⟨found, by simpa using opened, rfl, rfl⟩

theorem State.passed_of_regionCheck {s : State} {address n : Nat} {kind : RequestKind} {q : Fin 16} {p : Passage}
    (pass : s.regionCheck address n kind q = .pass p) : s.Passed p.index p.generation := by
  obtain ⟨found, opened, -, generation⟩ := State.regionCheck_pass pass
  exact ⟨generation, opened, p.index, ((RegionEntry.contains_iff _ _).mp (contains_of_lookup found)).1⟩

theorem State.channelCheck_pass {s : State} {owner : Fin 16} {address n : Nat} {kind : RequestKind} {p : Passage}
    (pass : s.channelCheck owner address n kind = .pass p) : s.regionCheck address n kind owner = .pass p := by
  unfold State.channelCheck at pass
  dsimp only at pass
  repeat' split at pass
  all_goals cases pass
  assumption

theorem Channel.running_iff (ch : Channel) : ch.running = true ↔ ch.state = .fetch ∨ ch.state = .run := by
  simp only [Channel.running, Bool.or_eq_true, beq_iff_eq]

theorem Channel.not_idle_of_running {ch : Channel} (running : ch.running = true) : ch.state ≠ .idle := by
  intro idle
  simp [Channel.running, idle] at running

theorem RegionEntry.downstreamKind_of_ne_pw (e : RegionEntry) {kind : RequestKind} (h : kind ≠ .pw) :
    e.downstreamKind kind = kind := by
  cases kind <;> simp_all [RegionEntry.downstreamKind]

theorem RegionEntry.downstreamKind_pw (e : RegionEntry) :
    e.downstreamKind .pw = if e.mode = .posted then .pw else .cw := by
  unfold RegionEntry.downstreamKind
  cases e.mode <;> rfl

/-! ### Channels -/

section
variable (wild : Prop) (c : Fin 2)

theorem moves_formRead {s : State} (address n : Nat) (purpose : ReadPurpose) (offset lowers : Nat)
    (running : (s.channels[c]).running = true) (vacant : (s.channels[c]).formed = none)
    (room : (s.channels[c]).tagsHeld.length < 4) :
    Moves wild s (s.formRead c address n purpose offset lowers) := by
  unfold State.formRead
  dsimp only
  split
  next cause index shown _ => exact .single (.stops s c cause index shown running)
  next p pass =>
    exact .single (.installs s c _ false _ (State.passed_of_regionCheck (State.channelCheck_pass pass)) running vacant rfl
      (fun _ => room) (fun _ => ⟨rfl, rfl, rfl, rfl, rfl, Nat.sub_le _ _⟩))

theorem moves_formWrite {s : State} (address : Nat) (data : List Word) (copyWrite : Bool) {change : Channel → Channel}
    (running : (s.channels[c]).running = true) (vacant : (s.channels[c]).formed = none)
    (may : s.writeMayTakeTag c address = true) (suits : ∀ ch : Channel, ch.Formed (change ch)) :
    Moves wild s (s.formWrite c address data copyWrite change) := by
  unfold State.formWrite
  dsimp only
  split
  next cause index shown _ => exact .single (.stops s c cause index shown running)
  next p pass =>
    have check := State.channelCheck_pass pass
    obtain ⟨found, -, kind, -⟩ := State.regionCheck_pass check
    refine .single (.installs s c _ copyWrite _ (State.passed_of_regionCheck check) running vacant rfl
      (fun converted => ?_) (fun _ => suits _))
    have confirm : (s.active[p.index]).mode ≠ .posted := fun posted => converted (by
      rw [channelEntry, kind, RegionEntry.downstreamKind_pw, if_pos posted])
    simp only [State.writeMayTakeTag, found, Bool.or_eq_true, beq_iff_eq, confirm, false_or, decide_eq_true_eq] at may
    exact may

theorem Channel.formed_remaining (ch : Channel) (n : Nat) :
    ch.Formed { ch with wordsRemaining := ch.wordsRemaining - n } :=
  ⟨rfl, rfl, rfl, rfl, rfl, Nat.sub_le _ _⟩

theorem Channel.formed_writeList (ch : Channel) (rest : List WriteItem) : ch.Formed { ch with writeList := rest } :=
  ⟨rfl, rfl, rfl, rfl, rfl, Nat.le_refl _⟩

theorem Channel.readMayForm_room {ch : Channel} {n : Nat} (may : ch.readMayForm n = true) : ch.tagsHeld.length < 4 := by
  simp only [Channel.readMayForm, Bool.and_eq_true, decide_eq_true_eq] at may
  exact may.1

theorem moves_formChunk {s : State} (d : Descriptor) (running : (s.channels[c]).running = true)
    (vacant : (s.channels[c]).formed = none) : Moves wild s (s.formChunk c d) := by
  unfold State.formChunk
  dsimp only
  split
  · exact .refl
  split
  · split
    next may => exact moves_formRead wild c _ _ _ _ _ running vacant (Channel.readMayForm_room may)
    · exact .refl
  · split
    next may => exact moves_formWrite wild c _ _ _ running vacant may (fun ch => ch.formed_remaining _)
    · exact .refl
  · split
    next may => exact moves_formRead wild c _ _ _ _ _ running vacant (Channel.readMayForm_room may)
    · exact .refl
  · exact .refl

theorem moves_formNext (s : State) : Moves wild s (s.formNext c) := by
  unfold State.formNext
  dsimp only
  split
  · exact .refl
  next empty =>
    have vacant : (s.channels[c]).formed = none := by simpa using empty
    split
    next fetch =>
      unfold State.formFetch
      dsimp only
      split
      next may =>
        rw [Bool.and_eq_true] at may
        exact moves_formRead wild c _ _ _ _ _ ((Channel.running_iff _).mpr (.inl fetch)) vacant
          (Channel.readMayForm_room may.2)
      · exact .refl
    next d run _ =>
      have running : (s.channels[c]).running = true := (Channel.running_iff _).mpr (.inr run)
      unfold State.formRun
      split
      · split
        next may => exact moves_formWrite wild c _ _ _ running vacant may (fun ch => ch.formed_writeList _)
        · exact moves_formChunk wild c d running vacant
      · exact moves_formChunk wild c d running vacant
    all_goals exact .refl

theorem Channel.recast_finish {ch : Channel} {d : Descriptor} (held : ch.descriptor = some d)
    (finished : ch.finished d = true) : ch.Recast (ch.finish d) := by
  simp only [Channel.finished, Bool.and_eq_true, beq_iff_eq, List.isEmpty_iff, Option.isNone_iff_eq_none,
    Bool.or_eq_true, Bool.not_eq_true'] at finished
  obtain ⟨⟨⟨⟨-, reads⟩, writes⟩, formed⟩, tags⟩ := finished
  unfold Channel.finish
  split
  next last =>
    have noTags : ch.tagsHeld = [] := by simpa [last] using tags
    refine ⟨fun _ ⟨_, _, descriptor, first, current⟩ => ⟨?_, ?_⟩, rfl, .inl rfl⟩
    · simp [Channel.heldLaw, noTags, reads, writes, formed]
    · simp only [Channel.descriptorLaw, reduceCtorEq, false_implies, true_and]
      exact ⟨fun e mem => ⟨(descriptor e mem).1, trivial⟩, first, current⟩
  next notLast =>
    refine ⟨fun ⟨four, _⟩ ⟨_, _, descriptor, first, _⟩ => ⟨?_, ?_⟩, rfl, .inl rfl⟩
    · simp [Channel.heldLaw, formed, four]
    · have good := (descriptor d held).1
      simp only [Descriptor.bad, Bool.or_eq_false_iff, Bool.and_eq_false_imp, bne_eq_false_iff_eq] at good
      simp only [Channel.descriptorLaw]
      exact ⟨fun _ => trivial, by simp, by simp, first, good.2 (by simpa using notLast)⟩

theorem moves_finishIfDone (s : State) : Moves wild s (s.finishIfDone c) := by
  unfold State.finishIfDone
  dsimp only
  split
  next d run held =>
    split
    next finished =>
      have recast : Moves wild s (s.setChannel c ((s.channels[c]).finish d)) :=
        .single (.recasts s c _ (Channel.recast_finish held finished) (.inr (.inl (by rw [run]; decide))))
      split
      · exact recast.trans (moves_raise wild _ _)
      · exact recast
    · exact .refl
  · exact .refl

theorem moves_advance (s : State) : Moves wild s (s.advance c) :=
  (moves_finishIfDone wild c s).trans (moves_formNext wild c _)

/-- A change of a running channel that keeps everything its laws speak of. -/
theorem Channel.Recast.of_eq {old new : Channel} (running : old.running = true) (state : new.state = old.state)
    (tags : new.tagsHeld = old.tagsHeld) (formed : new.formed = old.formed) (descriptor : new.descriptor = old.descriptor)
    (first : new.firstDescriptor = old.firstDescriptor) (current : new.currentAddress = old.currentAddress)
    (remaining : new.wordsRemaining = old.wordsRemaining) : old.Recast new where
  laws := fun ⟨four, _, drain, lacks⟩ law => by
    have active : ¬(old.state = .idle ∨ old.state = .halted) := by
      simp only [Channel.running, Bool.or_eq_true, beq_iff_eq] at running
      rintro (idle | halted) <;> simp_all
    refine ⟨⟨tags ▸ four, fun idle => absurd (state ▸ idle) active, ?_, ?_⟩, ?_⟩
    · rw [state, tags]; exact drain
    · rw [formed, tags]
      simpa [Channel.running, state] using lacks
    · simpa [Channel.descriptorLaw, state, descriptor, first, current, remaining] using law
  tagsHeld := tags
  formed := .inl formed

theorem Channel.recast_accept {ch : Channel} {d : Descriptor} (good : d.bad = false) :
    ch.Recast { ch with descriptor := some d, wordsRemaining := d.wordCount, state := .run } where
  laws := fun ⟨four, _, _, lacks⟩ ⟨_, _, _, first, current⟩ =>
    ⟨⟨four, by simp, by simp, fun f mem => ⟨fun _ => rfl, (lacks f mem).2⟩⟩,
      ⟨by simp, by simp, by simp [good], first, current⟩⟩
  tagsHeld := rfl
  formed := .inl rfl

theorem moves_acceptDescriptor {s : State} (data : List Word) (running : (s.channels[c]).running = true) :
    Moves wild s (s.acceptDescriptor c data) := by
  unfold State.acceptDescriptor
  split
  next d _ =>
    split
    · exact .single (.stops s c _ _ _ running)
    next good =>
      exact (StepRun.single (Move.recasts s c _ (Channel.recast_accept (by simpa using good))
        (.inr (.inl (Channel.not_idle_of_running running))))).trans (moves_advance wild c _)
  · exact .single (.stops s c _ _ _ running)

theorem moves_recast_advance {s : State} {ch : Channel} (recast : (s.channels[c]).Recast ch)
    (state : ch.state = (s.channels[c]).state) : Moves wild s ((s.setChannel c ch).advance c) :=
  (StepRun.single (Move.recasts s c ch recast (.inr (.inr state)))).trans (moves_advance wild c _)

theorem moves_goodAnswer {s : State} (item : Option ReadItem) (data : List Word)
    (running : (s.channels[c]).running = true) : Moves wild s (s.goodAnswer c item data) := by
  unfold State.goodAnswer
  dsimp only
  split
  · exact moves_advance wild c s
  split
  · exact moves_acceptDescriptor wild c data running
  · exact moves_recast_advance wild c (.of_eq running rfl rfl rfl rfl rfl rfl rfl) rfl
  · exact moves_recast_advance wild c (.of_eq running rfl rfl rfl rfl rfl rfl rfl) rfl

/-- A running channel weighs no halt. -/
theorem State.haltIfEmpty_of_running {s : State} {c : Fin 2} (running : (s.channels[c]).running = true) :
    s.haltIfEmpty c = s := by
  unfold State.haltIfEmpty
  rw [if_neg]
  intro h
  rw [Bool.and_eq_true, beq_iff_eq] at h
  rw [Channel.running_iff, h.1] at running
  simp at running

theorem State.setChannel_channel (s : State) (c : Fin 2) (ch : Channel) : (s.setChannel c ch).channels[c] = ch := by
  simp [State.setChannel]

end

/-! ### The arbiter -/

/-- The sending and the digest of a granted request are an aside. -/
theorem State.aside_sendAbsorb (s : State) (place : Candidate) (e : IssueEntry) (writer : Writer)
    (can : s.dPort.canSend = true) :
    s.Aside (({ s with lastGranted := place }.sendPacket .d (issuePacket e)).absorb e writer) := by
  have kept := LinkPort.Kept.sent can (issuePacket e) s.timeBase
  unfold State.absorb
  split
  · exact ⟨rfl, id, .refl _, kept⟩
  · exact ⟨rfl, id, .refl _, kept⟩

theorem moves_grantQueue (wild : Prop) {s : State} (can : s.dPort.canSend = true) : Moves wild s s.grantQueue := by
  unfold State.grantQueue
  split
  next e rest head =>
    exact (StepRun.single (Move.grantsQueue e rest head
      (State.aside_sendAbsorb { s with issueQueue := rest } .queue e _ can))).trans (moves_noteAdmission wild _ _)
  · exact .refl

theorem moves_grantChannel (wild : Prop) (c : Fin 2) (place : Candidate) {s : State} (can : s.dPort.canSend = true)
    (offered : (s.channels[c]).candidate = true) : Moves wild s (s.grantChannel c place) := by
  unfold State.grantChannel
  split
  next f formed =>
    have ready : f.lacksTag = false := by
      rw [Channel.candidate, formed] at offered
      simpa using offered
    exact (StepRun.single (Move.grantsChannel c f formed ready
      (State.aside_sendAbsorb (s.setChannel c { s.channels[c] with formed := none }) place f.entry _ can))).trans
      (moves_advance wild c _)
  · exact .refl

theorem moves_grant (wild : Prop) (s : State) : Moves wild s s.grant := by
  unfold State.grant
  split
  case isFalse => exact .refl
  case isTrue can =>
    split
    next => exact moves_grantQueue wild can
    next next => exact moves_grantChannel wild 0 _ can (List.find?_some (p := s.candidatePresent) next)
    next next => exact moves_grantChannel wild 1 _ can (List.find?_some (p := s.candidatePresent) next)
    next => exact .refl

end Sys2Proof.Machine

/-! Completions, expiries, admission, management and loading as runs of moves and replies, and with them every
command. -/

namespace Sys2Proof.Machine

/-! ### Completions (R58 to R67) -/

/-- A reply where one may be placed. -/
theorem deeds_placeReply (wild : Prop) {s : State} (r : Reply) (slot : s.slotFree) : Deeds wild s (s.placeReply r) :=
  .single (.reply s r slot)

theorem State.slotFree_of_replySlot {s : State} (slot : s.replySlot = true) : s.slotFree := by
  intro up
  simpa [State.replySlot, up] using slot

/-- The head of the D port inbound buffer leaves it. -/
theorem State.aside_dequeueD {s : State} (filled : s.dPort.inbound ≠ []) : s.Aside s.dequeueD :=
  ⟨rfl, id, .refl _, .dequeue filled⟩

/-- The head of the U port inbound buffer leaves it. -/
theorem State.aside_dequeueU {s : State} (filled : s.uPort.inbound ≠ []) : s.Aside s.dequeueU :=
  ⟨rfl, id, .dequeue filled, .refl _⟩

theorem moves_judge (wild : Prop) (t : Fin 48) (r : TagRecord) (good : Bool) (s : State) :
    Moves wild s (s.judge t r good) := by
  unfold State.judge
  split
  · exact .refl
  · exact moves_takeFault wild _ s

section
variable (wild : Prop) {s : State} (filled : s.dPort.inbound ≠ []) (t : Fin 48)
include filled

/-- The tags do not change when the head packet is taken, so that a tag may be freed after it. -/
theorem moves_dequeueD_freeTag (used : (s.tags[t]).state ≠ .free) (issued : (s.tags[t]).state ≠ .queued)
    (other : (s.tags[t]).state = .waiting → (s.tags[t]).owner ≠ .channel) :
    Moves wild s (s.dequeueD.freeTag t) :=
  (State.aside_dequeueD filled).moves.tail (.frees s.dequeueD t used issued other)

theorem deeds_matchRequester (c : Completion) (waiting : (s.tags[t]).state = .waiting)
    (owner : (s.tags[t]).owner = .requester) : Deeds wild s (s.matchRequester t c) := by
  unfold State.matchRequester
  dsimp only
  split
  next slot =>
    have replied : Deeds wild s (s.dequeueD.placeReply (matchReply s.tags[t] c)) :=
      (State.aside_dequeueD filled).moves.deeds.trans
        (deeds_placeReply wild _ ((State.aside_dequeueD filled).slotFree (State.slotFree_of_replySlot slot)))
    have same : (s.dequeueD.placeReply (matchReply s.tags[t] c)).tags = s.tags := by
      rw [State.placeReply_frame]; rfl
    refine (replied.tail (.move (.frees _ t ?_ ?_ ?_))).trans (moves_judge wild t _ _ _).deeds
    all_goals rw [same]; simp only [waiting, owner]; decide
  · exact (State.Aside.moves (.of_frame rfl)).deeds

theorem moves_matchGate (c : Completion) (waiting : (s.tags[t]).state = .waiting)
    (owner : (s.tags[t]).owner = .gate) : Moves wild s (s.matchGate t c) :=
  (moves_dequeueD_freeTag wild filled t (by rw [waiting]; decide) (by rw [waiting]; decide)
    (fun _ => by rw [owner]; decide)).trans (moves_judge wild t _ _ _)

/-- The answered channel, where it runs, goes on from the record without the tag. -/
theorem moves_matchChannel (c : Completion) (waiting : (s.tags[t]).state = .waiting)
    (owner : (s.tags[t]).owner = .channel) : Moves wild s (s.matchChannel t c) := by
  have answered : Moves wild s (((s.dequeueD.freeTag t).setChannel (s.tags[t]).ownerChannel
      ((s.channels[(s.tags[t]).ownerChannel]).endTag t)).haltIfEmpty (s.tags[t]).ownerChannel) :=
    (State.aside_dequeueD filled).moves.tail (.answers s.dequeueD t waiting owner)
  have channels : (s.dequeueD.freeTag t).channels = s.channels := by rw [State.freeTag_frame]; rfl
  unfold State.matchChannel State.channelAnswer
  simp only [channels]
  split
  next running =>
    have stays : ((s.channels[(s.tags[t]).ownerChannel]).endTag t).running = true := running
    rw [State.haltIfEmpty_of_running (by rw [State.setChannel_channel]; exact stays)] at answered
    split
    · exact answered.trans (moves_goodAnswer wild _ _ _ (by rw [State.setChannel_channel]; exact stays))
    · exact answered.tail (.stops _ _ _ _ _ (by rw [State.setChannel_channel]; exact stays))
  · exact answered

theorem moves_lateCompletion (expired : (s.tags[t]).state = .expired) : Moves wild s (s.lateCompletion t) :=
  (moves_dequeueD_freeTag wild filled t (by rw [expired]; decide) (by rw [expired]; decide)
    (fun waiting => by rw [expired] at waiting; cases waiting)).trans (moves_takeFault wild _ _)

omit t in
theorem moves_orphan (t : Option (Fin 48)) : Moves wild s (s.orphan t) :=
  (State.aside_dequeueD filled).moves.trans (moves_takeFault wild _ _)

omit t in
theorem deeds_classify (c : Completion) : Deeds wild s (s.classify c) := by
  unfold State.classify
  split
  · dsimp only
    split
    next waiting =>
      unfold State.matchCompletion
      split
      next owner => exact deeds_matchRequester wild filled _ c waiting owner
      next owner => exact (moves_matchGate wild filled _ c waiting owner).deeds
      next owner => exact (moves_matchChannel wild filled _ c waiting owner).deeds
    next expired => exact (moves_lateCompletion wild filled _ expired).deeds
    all_goals exact (moves_orphan wild filled _).deeds
  · exact (moves_orphan wild filled _).deeds

end

theorem deeds_takeCompletion (wild : Prop) (s : State) : Deeds wild s s.takeCompletion := by
  unfold State.takeCompletion
  split
  · exact .refl
  next packet rest head =>
    have filled : s.dPort.inbound ≠ [] := by simp [head]
    split
    · exact .refl
    split
    · exact deeds_classify wild filled _
    · exact Moves.deeds ((State.aside_dequeueD filled).moves.trans (moves_takeFault wild _ _))

/-! ### Expiries, reclaim and the closing run (R63 to R69) -/

theorem State.waiting_of_replyDue {s : State} {t : Fin 48} (due : s.replyDue t = true) :
    (s.tags[t]).state = .waiting := by
  rw [State.replyDue, Bool.and_eq_true, beq_iff_eq] at due
  exact due.1

theorem moves_expireOwn (wild : Prop) (t : Fin 48) (s : State) : Moves wild s (s.expireOwn t) := by
  unfold State.expireOwn
  dsimp only
  split
  case isFalse => exact .refl
  case isTrue due =>
    have waiting := State.waiting_of_replyDue due
    split
    next owner =>
      exact (StepRun.single (Move.expires s t (by rw [owner]; decide))).trans (moves_takeFault wild _ _)
    next owner =>
      have faulted := State.Aside.takeFault (s.timeoutFault t) (s.expireTag t)
      have lapsed : Moves wild s _ := .single (.lapses t waiting owner faulted)
      have channels : ((s.expireTag t).takeFault (s.timeoutFault t)).channels = s.channels := by
        rw [State.takeFault_frame, State.expireTag_frame]
      unfold State.channelExpiry
      rw [channels]
      by_cases running : ((s.channels[(s.tags[t]).ownerChannel]).endTag t).running = true
      · rw [State.haltIfEmpty_of_running (by rw [State.setChannel_channel]; exact running)] at lapsed
        exact lapsed.tail (.stops _ _ _ _ _ (by rw [State.setChannel_channel]; exact running))
      · unfold State.enterDrain
        simp only [State.setChannel_channel, running]
        exact lapsed
    · exact .refl

theorem deeds_expireRequester (wild : Prop) (t : Fin 48) (s : State) : Deeds wild s (s.expireRequester t) := by
  unfold State.expireRequester
  dsimp only
  split
  next h =>
    simp only [Bool.and_eq_true, beq_iff_eq] at h
    obtain ⟨⟨due, owner⟩, slot⟩ := h
    refine ((deeds_placeReply wild _ (State.slotFree_of_replySlot slot)).tail (.move (.expires _ t ?_))).trans
      (moves_takeFault wild _ _).deeds
    rw [State.placeReply_frame]
    simp only [owner]
    decide
  · exact .refl

theorem moves_reclaim (wild : Prop) (t : Fin 48) (s : State) : Moves wild s (s.reclaim t) := by
  unfold State.reclaim
  split
  next h =>
    rw [Bool.and_eq_true, beq_iff_eq] at h
    exact .single (.frees s t (by rw [h.1]; decide) (by rw [h.1]; decide)
      (fun waiting => TagState.noConfusion (h.1.symm.trans waiting)))
  · exact .refl

theorem deeds_answerClosing (wild : Prop) (s : State) : Deeds wild s s.answerClosing := by
  unfold State.answerClosing
  split
  next t lowest =>
    have closing : (s.tags[t]).state = .closing := by
      simpa [-Fin.getElem_fin] using (lowest_of_find?_finRange lowest).1
    dsimp only
    split
    next slot =>
      refine (deeds_placeReply wild _ (State.slotFree_of_replySlot slot)).tail (.move (.frees _ t ?_ ?_ ?_))
      all_goals
        rw [State.placeReply_frame]
        simp [-Fin.getElem_fin, closing]
    · exact .refl
  · exact .refl

theorem deeds_placeNotice (wild : Prop) (s : State) : Deeds wild s s.placeNotice := by
  unfold State.placeNotice
  split
  · split
    next h =>
      rw [Bool.and_eq_true, decide_eq_true_eq] at h
      exact (deeds_placeReply wild _ (fun _ => h.2)).trans (State.Aside.moves (.of_frame rfl)).deeds
    · exact .refl
  · exact .refl

/-! ### Management -/

/-- What the hand-over of a management access has established, as far as the laws can see. -/
structure State.Hands (wild : Prop) (s : State) (a : Access) : Prop where
  slot : a.confirmed = true → s.slotFree
  live : s.mode ≠ .loading ∨ wild
  up : s.uPort.state ≠ .down ∨ wild
  opened : (s.requesters[a.requester]).state = .opened
  right : (s.requesters[a.requester]).right = true

theorem deeds_answer (wild : Prop) (a : Access) (status : Status) {s : State}
    (slot : a.confirmed = true → s.slotFree) : Deeds wild s (s.answer a status) := by
  unfold State.answer
  split
  next confirmed => exact deeds_placeReply wild _ (slot confirmed)
  · exact .refl

theorem deeds_refuseBusy (wild : Prop) (a : Access) (offset : Nat) {s : State}
    (slot : a.confirmed = true → s.slotFree) : Deeds wild s (s.refuseBusy a offset) := by
  unfold State.refuseBusy
  split
  · exact deeds_answer wild a _ slot
  · exact (moves_takeFault wild _ s).deeds

/-- A command taken: the moves of its effect, then its status, then its reply. -/
theorem deeds_takeCommand (wild : Prop) (a : Access) (code : Byte) (operand : BitVec 16) (effect : Effect) {s : State}
    (slot : a.confirmed = true → s.slotFree)
    (moves : s.command.busy = false → Moves wild s (effect s).1 ∧ (effect s).2 ≠ .invalid) :
    Deeds wild s (s.takeCommand a code operand effect) := by
  unfold State.takeCommand
  split
  · exact deeds_refuseBusy wild a 0 slot
  next idle =>
    obtain ⟨moved, result⟩ := moves (by simpa using idle)
    have recorded : Moves wild s { (effect s).1 with
        command := CommandStatus.record code operand a.requester (effect s).2 } :=
      moved.tail (.records _ code operand a.requester _ result)
    exact recorded.deeds.trans (deeds_answer wild a _ (fun confirmed => recorded.slotFree (slot confirmed)))

/-- The moves of an effect with a bounded operand are those of the effect at the operand. -/
theorem moves_withRegion (wild : Prop) (operand : BitVec 16) {effect : Fin 64 → Effect} {s : State}
    (moves : ∀ r, Moves wild s (effect r s).1 ∧ (effect r s).2 ≠ .invalid) :
    Moves wild s (withRegion operand effect s).1 ∧ (withRegion operand effect s).2 ≠ .invalid := by
  unfold withRegion
  split
  · exact moves _
  · exact ⟨.refl, Result.noConfusion⟩

theorem moves_withRequester (wild : Prop) (operand : BitVec 16) {effect : Fin 16 → Effect} {s : State}
    (moves : ∀ r, Moves wild s (effect r s).1 ∧ (effect r s).2 ≠ .invalid) :
    Moves wild s (withRequester operand effect s).1 ∧ (withRequester operand effect s).2 ≠ .invalid := by
  unfold withRequester
  split
  · exact moves _
  · exact ⟨.refl, Result.noConfusion⟩

theorem moves_withChannel (wild : Prop) (operand : BitVec 16) {effect : Fin 2 → Effect} {s : State}
    (moves : ∀ r, Moves wild s (effect r s).1 ∧ (effect r s).2 ≠ .invalid) :
    Moves wild s (withChannel operand effect s).1 ∧ (withChannel operand effect s).2 ≠ .invalid := by
  unfold withChannel
  split
  · exact moves _
  · exact ⟨.refl, Result.noConfusion⟩

section
variable (wild : Prop) (s : State)

theorem moves_quiesceEffect (r : Fin 64) :
    Moves wild s (quiesceEffect r s).1 ∧ (quiesceEffect r s).2 ≠ .invalid := by
  cases runState : (s.regions[r]).runState with
  | opened =>
    obtain empty | items := Nat.eq_zero_or_pos (s.regions[r]).inFlight
    · rw [quiesceEffect_of_empty runState empty]
      exact ⟨(StepRun.single (Move.turns s r .quiesced ⟨fun _ => empty, RunState.noConfusion⟩)).trans
        (moves_raise wild _ _), Result.noConfusion⟩
    · rw [quiesceEffect_of_inFlight runState items]
      exact ⟨.single (.turns s r .quiescing ⟨RunState.noConfusion, fun _ => items⟩), Result.noConfusion⟩
  | quiescing =>
    rw [quiesceEffect_of_not_opened (by rw [runState]; decide)]
    exact ⟨.refl, Result.noConfusion⟩
  | quiesced =>
    rw [quiesceEffect_of_not_opened (by rw [runState]; decide)]
    exact ⟨.refl, Result.noConfusion⟩

theorem moves_resumeEffect (r : Fin 64) : Moves wild s (resumeEffect r s).1 ∧ (resumeEffect r s).2 ≠ .invalid := by
  have reopened := StepRun.single
    (Move.turns (wild := wild) s r .opened ⟨RunState.noConfusion, RunState.noConfusion⟩)
  unfold resumeEffect
  dsimp only
  split
  · exact ⟨.refl, Result.noConfusion⟩
  · exact ⟨reopened, Result.noConfusion⟩
  · exact ⟨reopened, Result.noConfusion⟩

theorem moves_digestClearEffect (r : Fin 64) :
    Moves wild s (digestClearEffect r s).1 ∧ (digestClearEffect r s).2 ≠ .invalid :=
  ⟨State.Aside.moves (.of_frame rfl), Result.noConfusion⟩

theorem moves_logPopEffect : Moves wild s (logPopEffect s).1 ∧ (logPopEffect s).2 ≠ .invalid := by
  unfold logPopEffect
  split
  next record rest log =>
    exact ⟨State.Aside.moves (.logShrinks (log ▸ List.sublist_cons_self record rest) (Nat.le_refl _)),
      Result.noConfusion⟩
  · exact ⟨.refl, Result.noConfusion⟩

theorem moves_logClearEffect : Moves wild s (logClearEffect s).1 ∧ (logClearEffect s).2 ≠ .invalid :=
  ⟨State.Aside.moves (.logShrinks (List.nil_sublist _) (Nat.zero_le _)), Result.noConfusion⟩

theorem moves_noticeArmEffect : Moves wild s (noticeArmEffect s).1 ∧ (noticeArmEffect s).2 ≠ .invalid :=
  ⟨State.Aside.moves (.of_frame rfl), Result.noConfusion⟩

theorem moves_noticeAckEffect (operand : BitVec 16) :
    Moves wild s (noticeAckEffect operand s).1 ∧ (noticeAckEffect operand s).2 ≠ .invalid :=
  ⟨State.Aside.moves (.of_frame rfl), Result.noConfusion⟩

theorem Channel.recast_start {ch : Channel} (still : ch.state = .idle ∨ ch.state = .halted) : ch.Recast ch.start where
  laws := fun ⟨_, empty, _, _⟩ ⟨_, _, _, first, _⟩ => by
    obtain ⟨tags, -, -, -⟩ := empty still
    exact ⟨by simp [Channel.start, Channel.heldLaw, tags], by simp [Channel.start, Channel.descriptorLaw, first]⟩
  tagsHeld := rfl
  formed := .inr ⟨rfl, still⟩

theorem Channel.recast_resumed {ch : Channel} (halted : ch.state = .halted) : ch.Recast ch.resumed where
  laws := fun ⟨_, empty, _, _⟩ ⟨_, _, good, first, current⟩ => by
    obtain ⟨tags, -, -, -⟩ := empty (.inr halted)
    unfold Channel.resumed
    cases held : ch.descriptor with
    | none => exact ⟨by simp [Channel.heldLaw, tags], by simp [Channel.descriptorLaw, first, current]⟩
    | some d =>
      have sound := (good d held).1
      exact ⟨by simp [Channel.heldLaw, tags], by simp [Channel.descriptorLaw, first, current, sound]⟩
  tagsHeld := by unfold Channel.resumed; cases ch.descriptor <;> rfl
  formed := .inr ⟨by unfold Channel.resumed; cases ch.descriptor <;> rfl, .inr halted⟩

theorem moves_channelStartEffect (c : Fin 2) (live : s.mode ≠ .loading ∨ wild) :
    Moves wild s (channelStartEffect c s).1 ∧ (channelStartEffect c s).2 ≠ .invalid := by
  unfold channelStartEffect
  dsimp only
  split
  next still =>
    rw [Bool.or_eq_true, beq_iff_eq, beq_iff_eq] at still
    exact ⟨(StepRun.single (Move.recasts s c _ (Channel.recast_start still) (.inl live))).trans
      (moves_formNext wild c _), Result.noConfusion⟩
  · exact ⟨.refl, Result.noConfusion⟩

theorem moves_channelStopEffect (c : Fin 2) :
    Moves wild s (channelStopEffect c s).1 ∧ (channelStopEffect c s).2 ≠ .invalid := by
  unfold channelStopEffect
  split
  next running => exact ⟨.single (.stops s c _ _ _ running), Result.noConfusion⟩
  · exact ⟨.refl, Result.noConfusion⟩

theorem moves_channelResumeEffect (c : Fin 2) (live : s.mode ≠ .loading ∨ wild) :
    Moves wild s (channelResumeEffect c s).1 ∧ (channelResumeEffect c s).2 ≠ .invalid := by
  unfold channelResumeEffect
  dsimp only
  split
  next halted =>
    rw [beq_iff_eq] at halted
    exact ⟨(StepRun.single (Move.recasts s c _ (Channel.recast_resumed halted) (.inl live))).trans
      (moves_formNext wild c _), Result.noConfusion⟩
  · exact ⟨.refl, Result.noConfusion⟩

theorem moves_linkRetrainEffect (operand : BitVec 16) (up : s.uPort.state ≠ .down ∨ wild) :
    Moves wild s (linkRetrainEffect operand s).1 ∧ (linkRetrainEffect operand s).2 ≠ .invalid := by
  unfold linkRetrainEffect
  split
  · exact ⟨moves_resetPort wild .u _ (.inr up), Result.noConfusion⟩
  split
  · exact ⟨moves_resetPort wild .d _ (.inr up), Result.noConfusion⟩
  · exact ⟨.refl, Result.noConfusion⟩

/-- A change of one requester record that keeps its outstanding count. -/
theorem requestersKept.set {v : Vector RequesterRecord 16} (q : Fin 16) {r : RequesterRecord}
    (outstanding : r.outstanding = (v[q]).outstanding)
    (limit : 1 ≤ (v[q]).limit → (v[q]).limit ≤ 16 → 1 ≤ r.limit ∧ r.limit ≤ 16)
    (managed : (∃ p : Fin 16, (v[p]).state = .opened ∧ (v[p]).right = true) →
      ∃ p : Fin 16, ((v.set q r)[p]).state = .opened ∧ ((v.set q r)[p]).right = true) :
    requestersKept v (v.set q r) where
  outstanding := fun p => by
    by_cases same : q.val = p.val
    · cases Fin.eq_of_val_eq same
      simpa using outstanding
    · simp [Vector.getElem_set_ne _ _ same]
  limit := fun p => by
    by_cases same : q.val = p.val
    · cases Fin.eq_of_val_eq same
      simpa using limit
    · simpa [Vector.getElem_set_ne _ _ same] using fun h k => ⟨h, k⟩
  managed := managed

/-- What stands in a table once one record has been replaced. -/
theorem getElem_set_fin {α : Type} {n : Nat} (v : Vector α n) (i j : Fin n) (x : α) :
    (v.set i x)[j] = if i = j then x else v[j] := by
  by_cases same : i = j
  · simp [same]
  · have differ : i.val ≠ j.val := fun h => same (Fin.eq_of_val_eq h)
    simp [same, Vector.getElem_set_ne _ _ differ]

/-- A change of the counters of a requester leaves everything that the laws read. -/
theorem requestersKept.counters {v : Vector RequesterRecord 16} (q : Fin 16) {r : RequesterRecord}
    (outstanding : r.outstanding = (v[q]).outstanding) (limit : r.limit = (v[q]).limit)
    (state : r.state = (v[q]).state ∨ r.state = .opened) (right : r.right = (v[q]).right) :
    requestersKept v (v.set q r) ∧
      ∀ p : Fin 16, ((v.set q r)[p]).state = (v[p]).state ∨ ((v.set q r)[p]).state = .opened := by
  have each : ∀ p : Fin 16, (((v.set q r)[p]).state = (v[p]).state ∨ ((v.set q r)[p]).state = .opened) ∧
      ((v.set q r)[p]).right = (v[p]).right := by
    intro p
    rw [getElem_set_fin]
    split
    next same => subst same; exact ⟨state, right⟩
    · exact ⟨.inl rfl, rfl⟩
  refine ⟨.set q outstanding (fun h k => ⟨limit ▸ h, limit ▸ k⟩) ?_, fun p => (each p).1⟩
  rintro ⟨p, opened, manages⟩
  refine ⟨p, ?_, (each p).2.trans manages⟩
  obtain same | open' := (each p).1
  · exact same.trans opened
  · exact open'

theorem moves_unfenceEffect (q : Fin 16) :
    Moves wild s (unfenceEffect q s).1 ∧ (unfenceEffect q s).2 ≠ .invalid := by
  unfold unfenceEffect
  split
  · obtain ⟨kept, states⟩ := requestersKept.counters (v := s.requesters) q
      (r := { s.requesters[q] with state := .opened }) rfl rfl (.inr rfl) rfl
    exact ⟨.single (.rewrites s _ kept (.inr states)), Result.noConfusion⟩
  · exact ⟨.refl, Result.noConfusion⟩

theorem moves_fenceFlush (q : Fin 16) : Moves wild s (s.fenceFlush q) := by
  refine (StepRun.single (Move.flushes s q)).trans ?_
  unfold State.fenceFlush
  dsimp only
  split
  · exact moves_takeFault wild _ _
  · exact (moves_noteAdmission wild _ _).trans (moves_takeFault wild _ _)

theorem moves_fenceEffect {a : Access} (hands : s.Hands wild a) (q : Fin 16) :
    Moves wild s (fenceEffect a.requester q s).1 ∧ (fenceEffect a.requester q s).2 ≠ .invalid := by
  unfold fenceEffect
  split
  · exact ⟨.refl, Result.noConfusion⟩
  next other =>
    split
    · exact ⟨.refl, Result.noConfusion⟩
    · have stays : (s.requesters.set q { s.requesters[q] with state := .fenced })[a.requester] =
          s.requesters[a.requester] := by
        rw [getElem_set_fin, if_neg other]
      have kept : requestersKept s.requesters (s.requesters.set q { s.requesters[q] with state := .fenced }) :=
        .set q rfl (fun h k => ⟨h, k⟩)
          (fun _ => ⟨a.requester, by rw [stays]; exact hands.opened, by rw [stays]; exact hands.right⟩)
      exact ⟨(StepRun.single (Move.rewrites s _ kept (.inl hands.live))).trans
        (moves_fenceFlush wild _ q), Result.noConfusion⟩

theorem moves_countersClearEffect : Moves wild s (countersClearEffect s).1 ∧ (countersClearEffect s).2 ≠ .invalid := by
  have kept : requestersKept s.requesters (mapTable RequesterRecord.clearCounters s.requesters) := by
    refine ⟨fun q => by rw [mapTable_getElem]; rfl, fun q h k => by rw [mapTable_getElem]; exact ⟨h, k⟩, ?_⟩
    rintro ⟨q, opened, right⟩
    exact ⟨q, by rw [mapTable_getElem]; exact opened, by rw [mapTable_getElem]; exact right⟩
  have cleared : State.Aside { s with requesters := mapTable RequesterRecord.clearCounters s.requesters }
      (countersClearEffect s).1 :=
    ⟨rfl, id, .counters s.uPort _, .counters s.dPort _⟩
  exact ⟨(StepRun.single (Move.rewrites s _ kept
    (.inr fun q => .inl (by rw [mapTable_getElem]; rfl)))).trans cleared.moves, Result.noConfusion⟩

end

/-- An access handed over does a run of deeds, or is the RESTART, which starts the gate up. -/
def State.managed' (wild : Prop) (s t : State) : Prop :=
  Deeds wild s t ∨ ∃ u : State, u.pending = s.pending ∧ t = u.startUp

theorem State.announceRestart_pending (p : Port) (s : State) : (s.announceRestart p).pending = s.pending := by
  unfold State.announceRestart
  split <;> rfl

section
variable {wild : Prop} {s : State} {a : Access} (hands : s.Hands wild a)
include hands

theorem deeds_takeCommit (operand : BitVec 16) : Deeds wild s (s.takeCommit a operand) := by
  unfold State.takeCommit
  split
  · exact deeds_refuseBusy wild a 0 hands.slot
  · exact .head (.move (.begins s operand (some a.requester) hands.live)) (deeds_answer wild a _ hands.slot)

theorem deeds_takeCancel (operand : BitVec 16) : Deeds wild s (s.takeCancel a operand) := by
  unfold State.takeCancel
  dsimp only
  split
  · exact .head (.move (.records s _ operand a.requester _ Result.noConfusion))
      ((moves_raise wild .command _).deeds.trans (deeds_answer wild a _ hands.slot))
  · exact .head (.move (.records s _ operand a.requester _ Result.noConfusion)) (deeds_answer wild a _ hands.slot)

theorem managed_takeRestart : s.managed' wild (s.takeRestart a) := by
  unfold State.takeRestart
  split
  · exact .inl (deeds_refuseBusy wild a 0 hands.slot)
  · exact .inr ⟨_, by rw [State.announceRestart_pending, State.announceRestart_pending], rfl⟩

/-- What each command other than COMMIT, CANCEL and RESTART does in IDLE, by its code. -/
theorem deeds_takeEffect (code : Byte) (operand : BitVec 16) (effect : Effect)
    (moves : s.command.busy = false → Moves wild s (effect s).1 ∧ (effect s).2 ≠ .invalid) :
    Deeds wild s (s.takeCommand a code operand effect) :=
  deeds_takeCommand wild a code operand effect hands.slot moves

theorem deeds_revert (code : Byte) (operand : BitVec 16) :
    Deeds wild s (s.takeCommand a code operand revertEffect) :=
  deeds_takeEffect hands code operand revertEffect fun idle => ⟨.single (.stages s s.active idle), Result.noConfusion⟩

theorem deeds_quiesce (code : Byte) (operand : BitVec 16) :
    Deeds wild s (s.takeCommand a code operand (withRegion operand quiesceEffect)) :=
  deeds_takeEffect hands code operand _ fun _ => moves_withRegion wild operand (moves_quiesceEffect wild s)

theorem deeds_resume (code : Byte) (operand : BitVec 16) :
    Deeds wild s (s.takeCommand a code operand (withRegion operand resumeEffect)) :=
  deeds_takeEffect hands code operand _ fun _ => moves_withRegion wild operand (moves_resumeEffect wild s)

theorem deeds_digestClear (code : Byte) (operand : BitVec 16) :
    Deeds wild s (s.takeCommand a code operand (withRegion operand digestClearEffect)) :=
  deeds_takeEffect hands code operand _ fun _ => moves_withRegion wild operand (moves_digestClearEffect wild s)

theorem deeds_fence (code : Byte) (operand : BitVec 16) :
    Deeds wild s (s.takeCommand a code operand (withRequester operand (fenceEffect a.requester))) :=
  deeds_takeEffect hands code operand _ fun _ => moves_withRequester wild operand (moves_fenceEffect wild s hands)

theorem deeds_unfence (code : Byte) (operand : BitVec 16) :
    Deeds wild s (s.takeCommand a code operand (withRequester operand unfenceEffect)) :=
  deeds_takeEffect hands code operand _ fun _ => moves_withRequester wild operand (moves_unfenceEffect wild s)

theorem deeds_logPop (code : Byte) (operand : BitVec 16) :
    Deeds wild s (s.takeCommand a code operand logPopEffect) :=
  deeds_takeEffect hands code operand _ fun _ => moves_logPopEffect wild s

theorem deeds_logClear (code : Byte) (operand : BitVec 16) :
    Deeds wild s (s.takeCommand a code operand logClearEffect) :=
  deeds_takeEffect hands code operand _ fun _ => moves_logClearEffect wild s

theorem deeds_noticeArm (code : Byte) (operand : BitVec 16) :
    Deeds wild s (s.takeCommand a code operand noticeArmEffect) :=
  deeds_takeEffect hands code operand _ fun _ => moves_noticeArmEffect wild s

theorem deeds_noticeAck (code : Byte) (operand : BitVec 16) :
    Deeds wild s (s.takeCommand a code operand (noticeAckEffect operand)) :=
  deeds_takeEffect hands code operand _ fun _ => moves_noticeAckEffect wild s operand

theorem deeds_channelStart (code : Byte) (operand : BitVec 16) :
    Deeds wild s (s.takeCommand a code operand (withChannel operand channelStartEffect)) :=
  deeds_takeEffect hands code operand _ fun _ =>
    moves_withChannel wild operand (fun c => moves_channelStartEffect wild s c hands.live)

theorem deeds_channelStop (code : Byte) (operand : BitVec 16) :
    Deeds wild s (s.takeCommand a code operand (withChannel operand channelStopEffect)) :=
  deeds_takeEffect hands code operand _ fun _ => moves_withChannel wild operand (moves_channelStopEffect wild s)

theorem deeds_channelResume (code : Byte) (operand : BitVec 16) :
    Deeds wild s (s.takeCommand a code operand (withChannel operand channelResumeEffect)) :=
  deeds_takeEffect hands code operand _ fun _ =>
    moves_withChannel wild operand (fun c => moves_channelResumeEffect wild s c hands.live)

theorem deeds_linkRetrain (code : Byte) (operand : BitVec 16) :
    Deeds wild s (s.takeCommand a code operand (linkRetrainEffect operand)) :=
  deeds_takeEffect hands code operand _ fun _ => moves_linkRetrainEffect wild s operand hands.up

theorem deeds_countersClear (code : Byte) (operand : BitVec 16) :
    Deeds wild s (s.takeCommand a code operand countersClearEffect) :=
  deeds_takeEffect hands code operand _ fun _ => moves_countersClearEffect wild s

theorem deeds_unknown (code : Byte) (operand : BitVec 16) :
    Deeds wild s (s.takeCommand a code operand unknownEffect) :=
  deeds_takeEffect hands code operand _ fun _ => ⟨.refl, Result.noConfusion⟩

theorem managed_writeCommand (value : Word) : s.managed' wild (s.writeCommand a value) := by
  unfold State.writeCommand
  dsimp only
  split
  · exact .inl (deeds_takeCommit hands _)
  · exact .inl (deeds_takeCancel hands _)
  · exact managed_takeRestart hands
  · exact .inl (deeds_revert hands _ _)
  · exact .inl (deeds_quiesce hands _ _)
  · exact .inl (deeds_resume hands _ _)
  · exact .inl (deeds_digestClear hands _ _)
  · exact .inl (deeds_fence hands _ _)
  · exact .inl (deeds_unfence hands _ _)
  · exact .inl (deeds_logPop hands _ _)
  · exact .inl (deeds_logClear hands _ _)
  · exact .inl (deeds_noticeArm hands _ _)
  · exact .inl (deeds_noticeAck hands _ _)
  · exact .inl (deeds_channelStart hands _ _)
  · exact .inl (deeds_channelStop hands _ _)
  · exact .inl (deeds_channelResume hands _ _)
  · exact .inl (deeds_linkRetrain hands _ _)
  · exact .inl (deeds_countersClear hands _ _)
  · exact .inl (deeds_unknown hands _ _)

theorem deeds_writeStaging (r : Fin 64) (w : Fin 4) (value : Word) : Deeds wild s (s.writeStaging a r w value) := by
  unfold State.writeStaging
  split
  · exact deeds_refuseBusy wild a _ hands.slot
  next idle => exact .head (.move (.stages s _ (by simpa using idle))) (deeds_answer wild a _ hands.slot)

/-- The lockout guard keeps an OPEN manager (R34). -/
theorem deeds_writeRequester (q : Fin 16) (value : Word) : Deeds wild s (s.writeRequester a q value) := by
  unfold State.writeRequester
  split
  · have faulted := State.Aside.takeFault
      { kind := .mgmtLockout, port := some .u, requester := some a.requester,
        address := some (apertureAddress (0x0100 + 0x20 * q.val)) } s
    exact faulted.moves.deeds.trans (deeds_answer wild a _ (fun confirmed => faulted.slotFree (hands.slot confirmed)))
  next free =>
    have states : ∀ p : Fin 16,
        ((s.requesters.set q (s.writtenRequester q value))[p]).state = (s.requesters[p]).state := by
      intro p
      rw [getElem_set_fin]
      split
      next same => subst same; rfl
      · rfl
    have kept : requestersKept s.requesters (s.requesters.set q (s.writtenRequester q value)) := by
      refine .set q rfl (fun _ _ => ?_) ?_
      · simp only [State.writtenRequester, writtenLimit]
        omega
      · rintro ⟨p, opened, right⟩
        by_cases taken : (s.requesters[q]).right = true ∧ writtenRight value = false
        · have manager : hasOpenManager (s.requesters.set q (s.writtenRequester q value)) = true := by
            simpa [State.lockedOut, -Fin.getElem_fin, taken] using free
          simp only [hasOpenManager, List.any_eq_true, Bool.and_eq_true, beq_iff_eq] at manager
          obtain ⟨r, mem, opened, right⟩ := manager
          obtain ⟨i, bound, rfl⟩ := Vector.mem_iff_getElem.mp (Vector.mem_toList_iff.mp mem)
          exact ⟨⟨i, bound⟩, opened, right⟩
        · refine ⟨p, (states p).trans opened, ?_⟩
          rw [getElem_set_fin]
          split
          next same =>
            subst same
            simpa [State.writtenRequester, -Fin.getElem_fin, right] using taken
          · exact right
    exact .head (.move (.rewrites s _ kept (.inr fun p => .inl (states p)))) (deeds_answer wild a _ hands.slot)

theorem deeds_writeTimeout (value : Word) : Deeds wild s (s.writeTimeout a value) :=
  (State.Aside.moves (wild := wild) (s := s) (t := { s with replyTimeout := writtenTimeout value })
    (.of_frame rfl)).deeds.trans (deeds_answer wild a _ hands.slot)

theorem deeds_writeNotice (value : Word) : Deeds wild s (s.writeNotice a value) :=
  (State.Aside.moves (wild := wild) (s := s) (t := { s with
    noticeRequester := writtenNoticeRequester value, enabledCauses := writtenCauses value })
    (.of_frame rfl)).deeds.trans (deeds_answer wild a _ hands.slot)

omit hands in
/-- The lowest five bits of a descriptor address stay zero (R86). -/
theorem Channel.recast_writeWord (ch : Channel) (w : Fin 3) (value : Word) : ch.Recast (ch.writeWord w value) := by
  have aligned : ch.firstDescriptor.toNat % 32 = 0 → (ch.writeWord w value).firstDescriptor.toNat % 32 = 0 := by
    intro first
    match w with
    | 0 => exact first
    | 1 =>
      simp only [Channel.writeWord, BitVec.toNat_append]
      simp [Nat.shiftLeft_eq, Nat.or_zero]
    | 2 =>
      simp only [Channel.writeWord, BitVec.toNat_append, BitVec.extractLsb'_toNat, Nat.shiftRight_zero]
      rw [Nat.or_mod_two_pow (n := 5)]
      simp [Nat.shiftLeft_eq]
      omega
  have same : ch.writeWord w value = { ch with
      owner := (ch.writeWord w value).owner, notifyOnHalt := (ch.writeWord w value).notifyOnHalt
      firstDescriptor := (ch.writeWord w value).firstDescriptor } := by
    match w with
    | 0 | 1 | 2 => rfl
  rw [same]
  exact ⟨fun held ⟨fetch, run, good, first, current⟩ => ⟨held, fetch, run, good, aligned first, current⟩, rfl, .inl rfl⟩

theorem deeds_writeChannel (c : Fin 2) (w : Fin 3) (value : Word) : Deeds wild s (s.writeChannel a c w value) := by
  have state : ((s.channels[c]).writeWord w value).state = (s.channels[c]).state := by
    match w with
    | 0 | 1 | 2 => rfl
  unfold State.writeChannel
  split
  · exact .head (.move (.recasts s c _ (Channel.recast_writeWord _ w value) (.inr (.inr state))))
      (deeds_answer wild a _ hands.slot)
  · exact deeds_refuseBusy wild a _ hands.slot

theorem managed_manageWrite (word : ApertureWord) (value : Word) :
    s.managed' wild (s.manageWrite a word value) := by
  have ignored : Deeds wild s (s.writeIgnored a) := deeds_answer wild a _ hands.slot
  unfold State.manageWrite
  split
  · exact managed_writeCommand hands value
  · exact .inl (deeds_writeTimeout hands value)
  · exact .inl (deeds_writeNotice hands value)
  · split
    · exact .inl (deeds_writeRequester hands _ value)
    · exact .inl ignored
  · exact .inl (deeds_writeStaging hands _ _ value)
  · exact .inl (deeds_writeChannel hands _ _ value)
  all_goals exact .inl ignored

end

/-! ### Admission (R31, R37 to R46) -/

/-- A packet waits at the U port while the mode is LOADING or the port DOWN: no lawful state has it. -/
def State.wild (s : State) : Prop := s.uPort.inbound ≠ [] ∧ (s.mode = .loading ∨ s.uPort.state = .down)

/-- What a verdict that hands over, or forwards, has established. -/
theorem State.verdict_management {s : State} {r : Request} {kind : RequestKind} {offset : Nat}
    (verdict : s.verdict r = .management kind offset) :
    (s.requesters[r.requester]).state = .opened ∧ (s.requesters[r.requester]).right = true := by
  unfold State.verdict at verdict
  split at verdict
  · cases verdict
  next =>
    split at verdict
    · cases verdict
    next opened =>
      split at verdict
      · split at verdict
        · cases verdict
        next right =>
          refine ⟨?_, by simpa using right⟩
          cases state : (s.requesters[r.requester]).state with
          | opened => rfl
          | fenced => simp [-Fin.getElem_fin, state] at opened
      · unfold State.judgeTraffic at verdict
        repeat' split at verdict
        all_goals cases verdict

theorem State.verdict_forward {s : State} {r : Request} {kind : RequestKind} {p : Passage}
    (verdict : s.verdict r = .forward kind p) :
    (∃ address, s.regionCheck address r.wordCount kind r.requester = .pass p) ∧
      (kind ≠ .pw → (s.requesters[r.requester]).outstanding < (s.requesters[r.requester]).limit) := by
  unfold State.verdict at verdict
  split at verdict
  · cases verdict
  next =>
    split at verdict
    · cases verdict
    split at verdict
    · repeat' split at verdict
      all_goals cases verdict
    next =>
      unfold State.judgeTraffic at verdict
      split at verdict
      · cases verdict
      split at verdict
      case h_5 q pass =>
        split at verdict
        · cases verdict
        next below =>
          cases verdict
          exact ⟨⟨_, pass⟩, fun notPosted => by simpa [-Fin.getElem_fin, notPosted] using below⟩
      all_goals cases verdict

theorem moves_updateRequester (wild : Prop) (q : Fin 16) {f : RequesterRecord → RequesterRecord} {s : State}
    (same : (f s.requesters[q]).outstanding = (s.requesters[q]).outstanding ∧
      (f s.requesters[q]).limit = (s.requesters[q]).limit ∧ (f s.requesters[q]).state = (s.requesters[q]).state ∧
      (f s.requesters[q]).right = (s.requesters[q]).right) : Moves wild s (s.updateRequester q f) := by
  obtain ⟨outstanding, limit, state, right⟩ := same
  obtain ⟨kept, states⟩ := requestersKept.counters (v := s.requesters) q outstanding limit (.inl state) right
  exact .single (.rewrites s _ kept (.inr states))

theorem deeds_refuse (wild : Prop) (r : Request) (status : Status) (fault : FaultReport) {s : State}
    (slot : r.posted = false → s.slotFree) : Deeds wild s (s.refuse r status fault) := by
  have counted : Moves wild s ((s.takeFault fault).updateRequester r.requester
      (fun x => { x with refused := x.refused + 1#32 })) :=
    (moves_takeFault wild fault s).trans (moves_updateRequester wild _ ⟨rfl, rfl, rfl, rfl⟩)
  unfold State.refuse
  dsimp only
  split
  · exact counted.deeds
  next notPosted =>
    exact counted.deeds.trans (deeds_placeReply wild _ (counted.slotFree (slot (by simpa using notPosted))))

theorem deeds_answerRetry (wild : Prop) (r : Request) {s : State} (slot : s.slotFree) :
    Deeds wild s (s.answerRetry r) := by
  have counted : Moves wild s (s.updateRequester r.requester (fun x => { x with retried := x.retried + 1#32 })) :=
    moves_updateRequester wild _ ⟨rfl, rfl, rfl, rfl⟩
  exact counted.deeds.trans (deeds_placeReply wild _ (counted.slotFree slot))

/-- An evaluation with nothing lacking takes the head packet and carries out its verdict. -/
theorem managed_carryOut {s : State} {r : Request} (filled : s.uPort.inbound ≠ [])
    (complete : (s.lacks r (s.verdict r)).any = false) :
    s.managed' s.wild (s.dequeueU.carryOut r (s.verdict r)) := by
  have aside := State.aside_dequeueU filled
  simp only [AdmissionWait.any, State.lacks, Bool.or_eq_false_iff, Bool.and_eq_false_imp] at complete
  obtain ⟨⟨reply, issue⟩, tag⟩ := complete
  have slotOf (needs : (s.verdict r).needsReply r = true) : s.dequeueU.slotFree :=
    aside.slotFree (State.slotFree_of_replySlot (by simpa using reply needs))
  cases verdict : s.verdict r with
  | refuse status fault =>
    exact .inl (aside.moves.deeds.trans (deeds_refuse _ r status fault (fun notPosted => slotOf (by
      rw [verdict]; simpa [Verdict.needsReply] using notPosted))))
  | retry => exact .inl (aside.moves.deeds.trans (deeds_answerRetry _ r (slotOf (by rw [verdict]; rfl))))
  | forward kind p =>
    obtain ⟨⟨address, pass⟩, limit⟩ := State.verdict_forward verdict
    obtain ⟨-, -, kindOf, -⟩ := State.regionCheck_pass pass
    obtain ⟨generation, opened, valid⟩ := State.passed_of_regionCheck pass
    refine .inl (aside.moves.deeds.tail (.move (.forwards s.dequeueU r kind p ⟨generation, opened, valid⟩ ?_ ?_ ?_ limit)))
    · have room : s.issueQueue.length < 32 := by
        rw [verdict] at issue
        simpa using issue rfl
      exact room
    · intro tagged
      have free : s.freeTags ≠ [] := by
        rw [verdict] at tag
        simpa using tag (by simpa [Verdict.needsTag] using tagged)
      exact free
    · intro notPosted
      rw [kindOf, RegionEntry.downstreamKind_of_ne_pw _ notPosted]
  | management kind offset =>
    obtain ⟨opened, right⟩ := State.verdict_management verdict
    have live : s.dequeueU.mode ≠ .loading ∨ s.wild := by
      by_cases loading : s.mode = .loading
      · exact .inr ⟨filled, .inl loading⟩
      · exact .inl loading
    have up : s.dequeueU.uPort.state ≠ .down ∨ s.wild := by
      by_cases down : s.uPort.state = .down
      · exact .inr ⟨filled, .inr down⟩
      · exact .inl down
    have after {t : State} (h : s.dequeueU.managed' s.wild t) : s.managed' s.wild t := by
      obtain deeds | ⟨u, pending, rfl⟩ := h
      · exact .inl (aside.moves.deeds.trans deeds)
      · exact .inr ⟨u, pending, rfl⟩
    cases kind with
    | rd => exact after (.inl (deeds_placeReply _ _ (slotOf (by rw [verdict]; rfl))))
    | pw =>
      exact after (managed_manageWrite
        (a := { requester := r.requester, tag := r.tag, confirmed := false })
        ⟨fun no => absurd no Bool.false_ne_true, live, up, opened, right⟩ _ _)
    | cw =>
      exact after (managed_manageWrite
        (a := { requester := r.requester, tag := r.tag, confirmed := true })
        ⟨fun _ => slotOf (by rw [verdict]; rfl), live, up, opened, right⟩ _ _)

end Sys2Proof.Machine

/-! Every command is a run of moves and replies, or one whole event; and the packages by which a law kept by each is kept
by every step. -/

namespace Sys2Proof.Machine

theorem managed_admission (s : State) : s.managed' s.wild s.admission := by
  unfold State.admission
  split
  · exact .inl .refl
  next packet rest head =>
    have filled : s.uPort.inbound ≠ [] := by simp [head]
    split
    · exact .inl .refl
    split
    · unfold State.evaluate
      dsimp only
      split
      · exact .inl (State.Aside.moves (.of_frame rfl)).deeds
      next complete => exact managed_carryOut filled (by simpa using complete)
    · exact .inl (Moves.deeds ((State.aside_dequeueU filled).moves.trans (moves_takeFault _ _ _)))

/-! ### Loading (R164 to R169) -/

theorem takeImageWord_cases (w : Word) (s : State) : s.takeImageWord w = s ∨ Whole s (s.takeImageWord w) := by
  unfold State.takeImageWord
  split
  · exact .inl rfl
  next words reading =>
    refine .inr ?_
    split
    · exact .gathers s words w reading
    next cause _ => exact .badImage s words cause reading
    next good => exact .goodImage s words w reading good

/-- The other index of a failing entry is present exactly for OVERLAP (R15). -/
theorem other_of_validate {b : Bank} {i : Fin 64} {cause : ValidationCause} {other : Option (Fin 64)}
    (report : validate b = some (i, cause, other)) : other.isSome = true ↔ cause = .overlap := by
  obtain ⟨fault, -⟩ := validate_eq_some report
  obtain ⟨-, -, ⟨own, rfl⟩ | ⟨-, rfl, j, rfl, -⟩⟩ := entryFault_eq_some fault
  · have first := RegionEntry.failsFirst_of_ownFault own
    cases cause <;> simp_all [RegionEntry.failsFirst]
  · simp

theorem endValidation_cases (wild : Prop) (s : State) :
    Moves wild s s.endValidation ∨ Whole s s.endValidation := by
  unfold State.endValidation
  split
  case isFalse => exact .inl .refl
  case isTrue running =>
    simp only [Bool.and_eq_true, beq_iff_eq] at running
    obtain ⟨busy, validating⟩ := running
    split
    next i cause other report =>
      have suits := other_of_validate report
      by_cases loading : s.mode = .loading
      · exact .inr (.badBank s i cause other suits loading busy)
      · refine .inl ?_
        simp only [State.validationFails, beq_iff_eq, loading, if_false]
        exact (StepRun.single (Move.invalid s i cause other suits loading)).trans (moves_raise wild _ _)
    next passes =>
      exact .inl ((StepRun.single (Move.drains s busy validating passes)).tail (.swaps _))

/-! ### Every command -/

/-- A management row of an access that can be handed over. -/
theorem State.hands_of_handsOver {s : State} {a : Access} (ok : s.handsOver a = true) : s.Hands s.wild a := by
  simp only [State.handsOver, Bool.and_eq_true, beq_iff_eq, bne_iff_ne, Bool.or_eq_true, Bool.not_eq_true'] at ok
  obtain ⟨⟨⟨⟨up, live⟩, opened⟩, right⟩, slot⟩ := ok
  refine ⟨fun confirmed => State.slotFree_of_replySlot ?_, .inl live, .inl (by rw [up]; decide), opened, right⟩
  simpa [confirmed] using slot

theorem deeds_handed {s : State} {a : Access} {act : State → State}
    (deeds : s.Hands s.wild a → Deeds s.wild s (act s)) : Deeds s.wild s (s.handed a act) := by
  unfold State.handed
  split
  next ok => exact deeds (State.hands_of_handsOver ok)
  · exact .refl

/-- Every command answers a next state, reached by moves and replies or as one whole event. -/
theorem exec_cases (c : Instr) (s : State) :
    ∃ t, exec c s = .next t ∧ (Deeds s.wild s t ∨ Whole s t) := by
  have whole_of_managed {t : State} (h : s.managed' s.wild t) : Deeds s.wild s t ∨ Whole s t := by
    obtain deeds | ⟨u, pending, rfl⟩ := h
    · exact .inl deeds
    · exact .inr (.startsUp s u pending)
  have deeds_of_moves {t : State} (h : Moves s.wild s t) : Deeds s.wild s t ∨ Whole s t := .inl h.deeds
  have handed {a : Access} {act : State → State} (deeds : s.Hands s.wild a → Deeds s.wild s (act s)) :
      Deeds s.wild s (s.handed a act) ∨ Whole s (s.handed a act) := .inl (deeds_handed deeds)
  cases c with
  | resetAssert => exact ⟨_, rfl, .inr (.powersOn s)⟩
  | resetRelease =>
    refine ⟨_, rfl, ?_⟩
    unfold State.releaseReset
    split
    · exact .inr (.startsUp s s rfl)
    · exact .inl .refl
  | imageWord b0 b1 b2 b3 =>
    refine ⟨_, rfl, ?_⟩
    obtain same | whole := takeImageWord_cases (bytesWord b0 b1 b2 b3) s
    · exact .inl (by rw [same]; exact .refl)
    · exact .inr whole
  | validationEnd =>
    refine ⟨_, rfl, ?_⟩
    obtain moves | whole := endValidation_cases s.wild s
    · exact deeds_of_moves moves
    · exact .inr whole
  | linkUnitReceive p bytes => exact ⟨_, rfl, deeds_of_moves (moves_receiveUnit _ p bytes s)⟩
  | initReceive p value =>
    refine ⟨_, rfl, ?_⟩
    obtain moves | whole := receiveInit_cases s.wild p value s
    · exact deeds_of_moves moves
    · exact .inr whole
  | ackReceive p value => exact ⟨_, rfl, deeds_of_moves (moves_receiveAck _ p _ s)⟩
  | retryReceive p value => exact ⟨_, rfl, deeds_of_moves (moves_receiveRetry _ p _ s)⟩
  | creditReceive p value => exact ⟨_, rfl, deeds_of_moves (moves_receiveCredit _ p _ s)⟩
  | resetReceive p value => exact ⟨_, rfl, deeds_of_moves (moves_receiveReset _ p s)⟩
  | badSymbol p kind value check => exact ⟨_, rfl, deeds_of_moves (moves_receiveBadSymbol _ p kind value check s)⟩
  | initResend p => exact ⟨_, rfl, deeds_of_moves (moves_sendInitAgain _ p s)⟩
  | acknowledgementTimer p => exact ⟨_, rfl, deeds_of_moves (moves_ackTimerReached _ p s)⟩
  | resend p => exact ⟨_, rfl, deeds_of_moves (moves_resendOne _ p s)⟩
  | ackSend p => exact ⟨_, rfl, deeds_of_moves (moves_sendAck _ p s)⟩
  | creditSend p => exact ⟨_, rfl, deeds_of_moves (moves_sendOwedCredit _ p s)⟩
  | replySend => exact ⟨_, rfl, deeds_of_moves (moves_sendReply _ s)⟩
  | grant => exact ⟨_, rfl, deeds_of_moves (moves_grant _ s)⟩
  | admissionEvaluate => exact ⟨_, rfl, whole_of_managed (managed_admission s)⟩
  | completionTake => exact ⟨_, rfl, .inl (deeds_takeCompletion _ s)⟩
  | tagExpiry t => exact ⟨_, rfl, deeds_of_moves (moves_expireOwn _ t s)⟩
  | requesterExpiry t => exact ⟨_, rfl, .inl (deeds_expireRequester _ t s)⟩
  | reclaim t => exact ⟨_, rfl, deeds_of_moves (moves_reclaim _ t s)⟩
  | closingAnswer => exact ⟨_, rfl, .inl (deeds_answerClosing _ s)⟩
  | channelTagTake c => exact ⟨_, rfl, deeds_of_moves (.single (.takesTag s c))⟩
  | noticePlace => exact ⟨_, rfl, .inl (deeds_placeNotice _ s)⟩
  | commit a operand => exact ⟨_, rfl, handed fun hands => deeds_takeCommit hands operand⟩
  | cancel a operand => exact ⟨_, rfl, handed fun hands => deeds_takeCancel hands operand⟩
  | revert a operand => exact ⟨_, rfl, handed fun hands => deeds_revert hands _ operand⟩
  | quiesce a operand => exact ⟨_, rfl, handed fun hands => deeds_quiesce hands _ operand⟩
  | resume a operand => exact ⟨_, rfl, handed fun hands => deeds_resume hands _ operand⟩
  | digestClear a operand => exact ⟨_, rfl, handed fun hands => deeds_digestClear hands _ operand⟩
  | fence a operand => exact ⟨_, rfl, handed fun hands => deeds_fence hands _ operand⟩
  | unfence a operand => exact ⟨_, rfl, handed fun hands => deeds_unfence hands _ operand⟩
  | logPop a operand => exact ⟨_, rfl, handed fun hands => deeds_logPop hands _ operand⟩
  | logClear a operand => exact ⟨_, rfl, handed fun hands => deeds_logClear hands _ operand⟩
  | noticeArm a operand => exact ⟨_, rfl, handed fun hands => deeds_noticeArm hands _ operand⟩
  | noticeAck a operand => exact ⟨_, rfl, handed fun hands => deeds_noticeAck hands _ operand⟩
  | channelStart a operand => exact ⟨_, rfl, handed fun hands => deeds_channelStart hands _ operand⟩
  | channelStop a operand => exact ⟨_, rfl, handed fun hands => deeds_channelStop hands _ operand⟩
  | channelResume a operand => exact ⟨_, rfl, handed fun hands => deeds_channelResume hands _ operand⟩
  | linkRetrain a operand => exact ⟨_, rfl, handed fun hands => deeds_linkRetrain hands _ operand⟩
  | countersClear a operand => exact ⟨_, rfl, handed fun hands => deeds_countersClear hands _ operand⟩
  | restart a operand =>
    refine ⟨_, rfl, ?_⟩
    unfold State.handed
    split
    next ok => exact whole_of_managed (managed_takeRestart (State.hands_of_handsOver ok))
    · exact .inl .refl
  | unknownCommand a code operand =>
    refine ⟨_, rfl, ?_⟩
    split
    · exact handed fun hands => deeds_unknown hands code operand
    · exact .inl .refl
  | stagingWrite a r w value => exact ⟨_, rfl, handed fun hands => deeds_writeStaging hands r w value⟩
  | requesterRecordWrite a q value => exact ⟨_, rfl, handed fun hands => deeds_writeRequester hands q value⟩
  | replyTimeoutWrite a value => exact ⟨_, rfl, handed fun hands => deeds_writeTimeout hands value⟩
  | noticeConfigurationWrite a value => exact ⟨_, rfl, handed fun hands => deeds_writeNotice hands value⟩
  | channelConfigurationWrite a c w value => exact ⟨_, rfl, handed fun hands => deeds_writeChannel hands c w value⟩
  | readOnlyWrite a word value =>
    refine ⟨_, rfl, ?_⟩
    split
    · exact .inl .refl
    · exact handed fun hands => deeds_answer _ a _ hands.slot

/-! ### No command touches the queue -/

theorem State.Aside.pending {s t : State} (h : s.Aside t) : t.pending = s.pending := by rw [h.frame]

theorem Move.pending {wild : Prop} {s t : State} (move : Move wild s t) : t.pending = s.pending := by
  cases move with
  | aside h => exact h.pending
  | stages | records | begins | invalid | drains | rewrites | turns | recasts | popsReply => rfl
  | swaps => exact (State.weighs_swapIfDrained s).outer.pending
  | forwards r kind p => exact (State.calm_forward r kind p s).pending
  | installs c e copyWrite change => exact (State.calm_install c e copyWrite change s).pending
  | takesTag c => exact (State.calm_channelTakesTag c s).pending
  | stops c cause index address => exact (State.weighs_enterDrain c cause index address s).outer.pending
  | grantsQueue e rest head aside => exact (State.weighs_settleIssue e _).outer.pending.trans aside.pending
  | grantsChannel c f formed ready aside =>
    exact (State.weighs_settleIssue f.entry _).outer.pending.trans aside.pending
  | frees t => exact (State.weighs_freeTag t s).outer.pending
  | expires t => exact (State.weighs_expireTag t s).outer.pending
  | answers t => exact (State.calm_haltIfEmpty _ _).pending.trans (State.weighs_freeTag t s).outer.pending
  | lapses t _ _ aside =>
    exact (State.calm_haltIfEmpty _ _).pending.trans (aside.pending.trans (State.weighs_expireTag t s).outer.pending)
  | flushes q =>
    exact (State.weighs_foldl State.weighs_flushUntagged _ _).outer.pending.trans
      (State.weighs_foldl (State.weighs_flushTag s.issueQueue q) _ _).outer.pending
  | loses => exact (State.weighs_takeLoss s).outer.pending
  | restarts p => cases p <;> rfl

theorem Deed.pending {wild : Prop} {s t : State} (deed : Deed wild s t) : t.pending = s.pending := by
  cases deed with
  | move h => exact h.pending
  | reply r => rw [State.placeReply_frame]

theorem State.grantWithheld_pending (s : State) : s.grantWithheld.pending = s.pending := by
  rw [State.grantWithheld_frame]

theorem State.failLoad_frame (cause : ImageCause) (index other : Option (Fin 64)) (s : State) :
    s.failLoad cause index other = { s with
      faultLog := (s.failLoad cause index other).faultLog, lostCount := (s.failLoad cause index other).lostCount
      pendingCauses := (s.failLoad cause index other).pendingCauses, requesters := safeRequesters
      replyTimeout := Config.timeoutReset, noticeRequester := none, enabledCauses := 0#6, mode := .safe
      wire := (s.failLoad cause index other).wire
      uPort := { s.uPort with
        allowance := (s.failLoad cause index other).uPort.allowance
        withholds := (s.failLoad cause index other).uPort.withholds } } := by
  unfold State.failLoad
  rw [State.grantWithheld_frame, State.takeFault_frame]

theorem State.grantAfterLoading_frame (p : Port) (s : State) : s.grantAfterLoading p = { s with
    wire := (s.grantAfterLoading p).wire
    uPort := { s.uPort with
      allowance := (s.grantAfterLoading p).uPort.allowance
      withholds := (s.grantAfterLoading p).uPort.withholds } } := by
  unfold State.grantAfterLoading
  split
  · rw [State.grantWithheld_frame]
  · rw [State.grantWithheld_frame]
  · rfl
  · rfl

theorem Whole.pending {s t : State} (whole : Whole s t) : t.pending = s.pending := by
  cases whole with
  | powersOn | gathers | goodImage => rfl
  | startsUp u queue => exact queue
  | badImage => rw [State.failLoad_frame]; rfl
  | badBank i cause other _ loading =>
    simp only [State.validationFails, loading, beq_self_eq_true, if_true]
    rw [State.failLoad_frame]
    rfl
  | comesUp p => rw [State.grantAfterLoading_frame]; cases p <;> rfl

/-- Settles O3: what each command does is moves, replies or one whole event, and none of these touches the queue. -/
theorem everyCommandAnswersANextState : Obligations.EveryCommandAnswersANextState := by
  intro c s
  obtain ⟨t, next, deeds | whole⟩ := exec_cases c s
  · refine ⟨t, next, ?_⟩
    clear next
    induction deeds with
    | refl => rfl
    | tail _ deed same => exact deed.pending.trans same
  · exact ⟨t, next, whole.pending⟩

/-! ### Laws kept by every step -/

/-- What every step does: deeds, one whole event, or one microsecond, from the state without the command. -/
theorem step_cases {s t : State} (next : step s = .next t) :
    (∃ rest, Deeds (State.wild s) { s with pending := rest } t ∨ Whole { s with pending := rest } t) ∨ t = s.tick := by
  unfold step at next
  split at next
  next c rest _ =>
    obtain ⟨u, answer, cases⟩ := exec_cases c { s with pending := rest }
    rw [answer] at next
    cases next
    exact .inl ⟨rest, cases⟩
  · cases next
    exact .inr rfl

/-- A law that ignores the queue is kept by every step when the deeds, the whole events and the tick keep it. -/
theorem law_kept_of_step {P : State → Prop} {s t : State} (queue : ∀ rest, P s → P { s with pending := rest })
    (deed : ∀ u v, Deed s.wild u v → P u → P v) (whole : ∀ rest, Whole { s with pending := rest } t → P t)
    (tick : P s → P s.tick) (law : P s) (next : step s = .next t) : P t := by
  obtain ⟨rest, deeds | event⟩ | rfl := step_cases next
  · clear next whole
    induction deeds with
    | refl => exact queue rest law
    | tail _ h ih => exact deed _ _ h ih
  · exact whole rest event
  · exact tick law

end Sys2Proof.Machine

/-! The laws of the fault log, the two queues, the command status and the run states (R23, R73, R114, R131, R160,
R161). -/

namespace Sys2Proof.Machine

/-! ### The state after reset -/

theorem State.reset_tagLaw : State.reset.tagLaw := by
  intro t
  have once : (List.finRange 48).count t = 1 :=
    (List.nodup_finRange 48).count.trans (if_pos (List.mem_finRange t))
  simp [State.reset, TagRecord.reset, once]

theorem State.reset_items : State.reset.items = [] := by
  simp [State.items, State.taggedItems, State.postedItems, State.formedItems, State.reset, TagRecord.reset,
    TagRecord.inFlight, Channel.reset]

theorem State.reset_accountLaw : State.reset.accountLaw := by
  refine ⟨fun r => ?_, ?_, ?_, ?_⟩ <;> rw [State.reset_items] <;> simp [State.reset, RegionStatus.reset]

theorem State.reset_outstandingLaw : State.reset.outstandingLaw := by
  have noneOwed (q : Fin 16) : State.reset.tagsOwed q = 0 := by
    refine List.countP_eq_zero.mpr fun t _ => ?_
    simp [State.reset, TagRecord.reset, TagRecord.owes]
  intro q
  rw [noneOwed]
  simp [State.reset, RequesterRecord.reset]

theorem State.reset_channelLaw : State.reset.channelLaw := by
  intro c
  simp [State.reset, Channel.reset, Channel.heldLaw, Channel.descriptorLaw]

theorem State.reset_tagUseLaw : State.reset.tagUseLaw := by
  refine ⟨fun c => ?_, ?_, ?_, ?_⟩ <;>
    simp [State.reset, Channel.reset, TagRecord.reset, TagRecord.inFlight, State.formedTag, State.queuedTags]

theorem LinkPort.reset_law : LinkPort.reset.law := by
  simp [LinkPort.law, LinkPort.cleared, LinkPort.storeLaw, LinkPort.replayLaw, LinkPort.creditLaw,
    LinkPort.withholdLaw, LinkPort.reset]

theorem State.reset_portLaw : State.reset.portLaw := by
  refine ⟨LinkPort.reset_law, LinkPort.reset_law, ?_⟩
  simp [State.reset, LinkPort.reset]

theorem State.reset_loadingLaw : State.reset.loadingLaw := by
  simp [State.loadingLaw, State.reset, CommandStatus.reset, TagRecord.reset, Channel.reset, LinkPort.reset,
    RegionEntry.reset]

theorem State.reset_managerLaw : State.reset.managerLaw := by
  simp [State.managerLaw, State.reset, CommandStatus.reset, RequesterRecord.reset]

theorem State.reset_logLaw : State.reset.logLaw := by simp [State.logLaw, State.reset]

theorem State.reset_queueLaw : State.reset.queueLaw := by simp [State.queueLaw, State.reset]

theorem State.reset_commandLaw : State.reset.commandLaw := by
  simp [State.commandLaw, State.reset, CommandStatus.reset]

theorem State.reset_bankLaw : State.reset.bankLaw := by
  simp [State.bankLaw, bankLawful, State.reset, CommandStatus.reset, RegionEntry.reset]

theorem State.reset_quiesceLaw : State.reset.quiesceLaw := by
  simp [State.quiesceLaw, State.reset, RegionStatus.reset]

/-- Settles O4, law by law. -/
theorem resetStateHasEveryLaw : Obligations.ResetStateHasEveryLaw :=
  ⟨State.reset_logLaw, State.reset_queueLaw, State.reset_portLaw, State.reset_commandLaw, State.reset_bankLaw,
    State.reset_quiesceLaw, State.reset_tagLaw, State.reset_outstandingLaw, State.reset_channelLaw,
    State.reset_tagUseLaw, State.reset_accountLaw, State.reset_loadingLaw, State.reset_managerLaw⟩

/-- What the start after reset changes of the power-on values (R163, R164). -/
theorem State.startUp_frame (u : State) : u.startUp = { State.reset with
    resetHeld := false, loader := some [], serialSelect := true
    uPort := LinkPort.reset.enterDown.enterInit 0 0#32, dPort := LinkPort.reset.enterDown.enterInit 16 0#32
    wire := u.startUp.wire, pending := u.pending } := rfl

/-- A failed validation of the image commit ends the load (R167). -/
theorem State.validationFails_of_loading {s : State} (i : Fin 64) (cause : ValidationCause) (other : Option (Fin 64))
    (loading : s.mode = .loading) :
    s.validationFails i cause other =
      (State.raise .command { s with command := s.command.commitInvalid i cause other }).failLoad (.validation cause)
        (some i) other := by
  simp only [State.validationFails, loading, beq_self_eq_true, if_true]

/-! ### The fault log (R114) -/

theorem State.logLaw_haltIfEmpty {s : State} (law : s.logLaw) (c : Fin 2) : (s.haltIfEmpty c).logLaw := by
  have halted (ch : Channel) : (s.haltNow c ch).logLaw := by
    unfold State.haltNow
    dsimp only
    repeat' split
    all_goals first | exact law | exact State.logLaw_takeFault (s := s.setChannel c ch.halt) law _
  unfold State.haltIfEmpty
  split
  · exact halted _
  · exact law

theorem State.logLaw_fall {s : State} (law : s.logLaw) (r : Fin 64) (g : BitVec 8) : (s.fall r g).logLaw := by
  rw [State.fall_frame]
  exact law

theorem State.logLaw_freeTag {s : State} (law : s.logLaw) (t : Fin 48) : (s.freeTag t).logLaw := by
  rw [State.freeTag_frame]
  exact law

theorem State.logLaw_expireTag {s : State} (law : s.logLaw) (t : Fin 48) : (s.expireTag t).logLaw := by
  rw [State.expireTag_frame]
  exact law

theorem State.logLaw_settleIssue {s : State} (law : s.logLaw) (e : IssueEntry) : (s.settleIssue e).logLaw := by
  unfold State.settleIssue
  split
  · rw [State.issueTag_frame]; exact law
  · exact State.logLaw_fall law _ _

theorem State.logLaw_enterDrain {s : State} (law : s.logLaw) (c : Fin 2) (cause : HaltCause)
    (index : Option (Fin 64)) (address : Option Address) : (s.enterDrain c cause index address).logLaw := by
  unfold State.enterDrain
  dsimp only
  split
  · refine State.logLaw_haltIfEmpty ?_ c
    rw [State.setChannel, State.dropFormed_frame]
    exact law
  · exact State.logLaw_haltIfEmpty law c

/-- A law kept by each operation of a fold is kept by the fold. -/
theorem kept_foldl {α : Type} {P : State → Prop} {f : State → α → State} (each : ∀ s x, P s → P (f s x)) (l : List α)
    {s : State} (law : P s) : P (l.foldl f s) := by
  induction l generalizing s with
  | nil => exact law
  | cons x rest step => exact step (each s x law)

theorem State.logLaw_flush {s : State} (law : s.logLaw) (queue removed : List IssueEntry) (q : Fin 16) :
    (removed.foldl State.flushUntagged ((List.finRange 48).foldl (State.flushTag queue q) s)).logLaw := by
  refine kept_foldl (fun u e law => ?_) _ (kept_foldl (fun u t law => ?_) _ law)
  · unfold State.flushUntagged
    split
    · exact State.logLaw_fall law _ _
    · exact law
  · unfold State.flushTag
    split
    · exact State.logLaw_freeTag law t
    · exact law

theorem State.logLaw_closeTags {s : State} (law : s.logLaw) : s.closeTags.logLaw := by
  refine kept_foldl (fun u t law => ?_) _ law
  have freed : (u.putFree t).logLaw := law
  unfold State.closeTag
  dsimp only
  split
  all_goals first | exact law | exact State.logLaw_takeFault freed _

theorem State.logLaw_emptyIssueQueue {s : State} (law : s.logLaw) : s.emptyIssueQueue.logLaw := by
  have dropped : (s.issueQueue.foldl State.dropEntry s).logLaw := by
    refine kept_foldl (fun u e law => ?_) _ law
    unfold State.dropEntry
    split
    · exact State.logLaw_takeFault law _
    · exact law
  unfold State.emptyIssueQueue
  dsimp only
  split <;> exact dropped

theorem State.logLaw_loseChannel {s : State} (law : s.logLaw) (c : Fin 2) : (s.loseChannel c).logLaw := by
  have halted (ch : Channel) : (s.haltNow c ch).logLaw := by
    unfold State.haltNow
    dsimp only
    repeat' split
    all_goals first | exact law | exact State.logLaw_takeFault (s := s.setChannel c ch.halt) law _
  unfold State.loseChannel
  dsimp only
  repeat' split
  · exact halted _
  · exact halted _
  · exact law

theorem State.logLaw_takeLoss {s : State} (law : s.logLaw) : (s.takeLoss .d).logLaw := by
  have lost := State.logLaw_loseChannel (State.logLaw_loseChannel
    (State.logLaw_emptyIssueQueue (State.logLaw_closeTags law)) 0) 1
  unfold State.takeLoss
  dsimp only
  exact State.logLaw_congr (by rw [State.endAllInFlight_frame]) (by rw [State.endAllInFlight_frame]) lost

/-- A waiting request takes the head of the free list, or nothing changes. -/
theorem State.channelTakesTag_cases (c : Fin 2) (s : State) :
    s.channelTakesTag c = s ∨
      ∃ f t rest, (s.channels[c]).formed = some f ∧ f.lacksTag = true ∧ s.freeTags = t :: rest ∧
        s.channelTakesTag c = { s with
          tags := s.tags.set t (channelTag c f.entry), freeTags := rest
          channels := s.channels.set c ((s.channels[c]).taken f t) } := by
  unfold State.channelTakesTag
  split
  case h_2 => exact .inl rfl
  case h_1 f formed =>
    split
    case isFalse => exact .inl rfl
    case isTrue lacks =>
      cases free : s.freeTags with
      | nil => rw [State.takeTag_nil _ s free]; exact .inl rfl
      | cons t rest =>
        rw [State.takeTag_cons _ s t rest free]
        exact .inr ⟨f, t, rest, formed, lacks, rfl, rfl⟩

theorem Move.logLaw {wild : Prop} {s t : State} (move : Move wild s t) (law : s.logLaw) : t.logLaw := by
  cases move with
  | aside h => exact h.log law
  | stages | records | begins | invalid | drains | rewrites | turns | recasts | popsReply => exact law
  | swaps =>
    exact State.logLaw_congr (by rw [State.swapIfDrained_frame]) (by rw [State.swapIfDrained_frame]) law
  | forwards r kind p =>
    unfold State.forward State.takeForwardTag
    dsimp only
    split
    · exact law
    · exact State.logLaw_congr (s := s) (by rw [State.takeTag_frame]; rfl) (by rw [State.takeTag_frame]; rfl) law
  | installs c e copyWrite change =>
    exact State.logLaw_congr (by rw [State.install_frame]) (by rw [State.install_frame]) law
  | takesTag c =>
    obtain same | ⟨f, t, rest, -, -, -, taken⟩ := s.channelTakesTag_cases c
    · rw [same]; exact law
    · rw [taken]; exact law
  | stops c cause index address => exact State.logLaw_enterDrain law c cause index address
  | grantsQueue e rest head aside => exact State.logLaw_settleIssue (aside.log law) e
  | grantsChannel c f formed ready aside => exact State.logLaw_settleIssue (aside.log law) f.entry
  | frees t => exact State.logLaw_freeTag law t
  | expires t => exact State.logLaw_expireTag law t
  | answers t =>
    exact State.logLaw_haltIfEmpty (s := State.setChannel _ _ (s.freeTag t)) (State.logLaw_freeTag law t) _
  | @lapses u t _ _ aside =>
    exact State.logLaw_haltIfEmpty (s := State.setChannel _ _ u) (aside.log (State.logLaw_expireTag law t)) _
  | flushes q => exact State.logLaw_flush (s := { s with issueQueue := s.issueQueue.filter (fun e => e.requester != q) }) law _ _ q
  | loses => exact State.logLaw_takeLoss law
  | restarts p => cases p <;> exact law

theorem State.logLaw_placeReply {s : State} (law : s.logLaw) (r : Reply) : (s.placeReply r).logLaw := by
  rw [State.placeReply_frame]
  exact law

theorem State.logLaw_failLoad {s : State} (law : s.logLaw) (cause : ImageCause) (index other : Option (Fin 64)) :
    (s.failLoad cause index other).logLaw := by
  unfold State.failLoad
  rw [State.grantWithheld_frame]
  exact State.logLaw_takeFault law _

theorem Whole.logLaw {s t : State} (whole : Whole s t) (law : s.logLaw) : t.logLaw := by
  cases whole with
  | powersOn => exact State.reset_logLaw
  | startsUp u => rw [State.startUp_frame]; exact State.reset_logLaw
  | gathers | goodImage => exact law
  | badImage words cause => exact State.logLaw_failLoad (s := s.endRead) law _ _ _
  | badBank i cause other _ loading =>
    rw [State.validationFails_of_loading i cause other loading]
    refine State.logLaw_failLoad ?_ _ _ _
    exact law
  | comesUp p credit =>
    have same : (((s.updatePort p (fun l => l.enterUp credit)).raise .link).grantAfterLoading p).faultLog = s.faultLog ∧
        (((s.updatePort p (fun l => l.enterUp credit)).raise .link).grantAfterLoading p).lostCount = s.lostCount := by
      rw [State.grantAfterLoading_frame]
      cases p <;> exact ⟨rfl, rfl⟩
    exact State.logLaw_congr same.1 same.2 law

theorem Deed.logLaw {wild : Prop} {s t : State} (deed : Deed wild s t) (law : s.logLaw) : t.logLaw := by
  cases deed with
  | move h => exact h.logLaw law
  | reply r => exact State.logLaw_placeReply law r

theorem State.logLaw_tick {s : State} (law : s.logLaw) : s.tick.logLaw := by
  unfold State.tick
  split <;> exact law

theorem logLaw_kept {s t : State} (next : step s = .next t) (law : s.logLaw) : t.logLaw :=
  law_kept_of_step (fun _ => id) (fun _ _ => Deed.logLaw) (fun _ event => event.logLaw law) State.logLaw_tick law next

/-! ### The two queues (R73, R160, R161) -/

theorem State.queueLaw_of_outer {s t : State} (outer : s.Outer t) (issue : t.issueQueue.length ≤ s.issueQueue.length)
    (law : s.queueLaw) : t.queueLaw := by
  obtain ⟨replies, down, issues⟩ := law
  exact ⟨outer.replyQueue ▸ replies, fun no => outer.replyQueue ▸ down (outer.uState ▸ no), Nat.le_trans issue issues⟩

theorem State.settleIssue_issueQueue (e : IssueEntry) (s : State) : (s.settleIssue e).issueQueue = s.issueQueue := by
  unfold State.settleIssue
  split
  · rw [State.issueTag_frame]
  · rw [State.fall_frame]

theorem State.flush_issueQueue (queue removed : List IssueEntry) (q : Fin 16) (s : State) :
    (removed.foldl State.flushUntagged ((List.finRange 48).foldl (State.flushTag queue q) s)).issueQueue =
      s.issueQueue := by
  refine kept_foldl (P := fun u => u.issueQueue = s.issueQueue) (fun u e law => ?_) _
    (kept_foldl (P := fun u => u.issueQueue = s.issueQueue) (fun u t law => ?_) _ rfl)
  · unfold State.flushUntagged
    split
    · rw [State.fall_frame]; exact law
    · exact law
  · unfold State.flushTag
    split
    · rw [State.freeTag_frame]; exact law
    · exact law

theorem State.channelTakesTag_issueQueue (c : Fin 2) (s : State) : (s.channelTakesTag c).issueQueue = s.issueQueue := by
  obtain same | ⟨f, t, rest, -, -, -, taken⟩ := s.channelTakesTag_cases c
  · rw [same]
  · rw [taken]

theorem State.forward_issueQueue (r : Request) (kind : RequestKind) (p : Passage) (s : State) :
    (s.forward r kind p).issueQueue = s.issueQueue ++ [forwardEntry r p (s.takeForwardTag r kind p).1] := by
  have same : (s.takeForwardTag r kind p).2.issueQueue = s.issueQueue := by
    unfold State.takeForwardTag
    split
    · rfl
    · rw [State.takeTag_frame]
  rw [← same]
  rfl

theorem State.takeLoss_issueQueue (s : State) : (s.takeLoss .d).issueQueue = [] := by
  have kept (c : Fin 2) (u : State) : (u.loseChannel c).issueQueue = u.issueQueue := by
    unfold State.loseChannel
    dsimp only
    repeat' split
    · rw [State.haltNow_frame]
    · rw [State.haltNow_frame]
    · rfl
  unfold State.takeLoss
  dsimp only
  rw [State.endAllInFlight_frame]
  dsimp only
  rw [kept, kept, State.emptyIssueQueue_frame]

theorem State.Aside.issueQueue {s t : State} (h : s.Aside t) : t.issueQueue = s.issueQueue := by rw [h.frame]

theorem State.Aside.queueLaw {s t : State} (h : s.Aside t) (law : s.queueLaw) : t.queueLaw := by
  obtain ⟨replies, down, issues⟩ := law
  have same : t.replyQueue = s.replyQueue := by rw [h.frame]
  unfold State.queueLaw
  rw [same, h.issueQueue, h.uPort.state]
  exact ⟨replies, down, issues⟩

theorem State.queueLaw_haltIfEmpty {s : State} (law : s.queueLaw) (c : Fin 2) : (s.haltIfEmpty c).queueLaw :=
  State.queueLaw_of_outer (State.Weighs.calm (State.calm_haltIfEmpty c s)).outer (Nat.le_of_eq (by rw [State.haltIfEmpty_frame])) law

theorem Move.queueLaw {wild : Prop} {s t : State} (move : Move wild s t) (law : s.queueLaw) : t.queueLaw := by
  cases move with
  | aside h => exact h.queueLaw law
  | stages | records | begins | invalid | drains | rewrites | turns | recasts => exact law
  | swaps =>
    exact State.queueLaw_of_outer (State.weighs_swapIfDrained s).outer (Nat.le_of_eq (by rw [State.swapIfDrained_frame])) law
  | forwards r kind p _ room =>
    obtain ⟨replies, down, -⟩ := law
    have calm := State.calm_forward r kind p s
    refine ⟨calm.replyQueue ▸ replies, fun no => calm.replyQueue ▸ down (calm.uPort ▸ no), ?_⟩
    rw [State.forward_issueQueue, List.length_append]
    exact room
  | installs c e copyWrite change =>
    exact State.queueLaw_of_outer (State.Weighs.calm (State.calm_install c e copyWrite change s)).outer
      (Nat.le_of_eq (by rw [State.install_frame])) law
  | takesTag c =>
    exact State.queueLaw_of_outer (State.Weighs.calm (State.calm_channelTakesTag c s)).outer
      (Nat.le_of_eq (by rw [State.channelTakesTag_issueQueue])) law
  | stops c cause index address =>
    exact State.queueLaw_of_outer (State.weighs_enterDrain c cause index address s).outer
      (Nat.le_of_eq (by rw [State.enterDrain_frame])) law
  | grantsQueue e rest head aside =>
    obtain ⟨replies, down, issues⟩ := law
    rw [head, List.length_cons] at issues
    exact State.queueLaw_of_outer (State.weighs_settleIssue e _).outer (Nat.le_of_eq (by rw [State.settleIssue_issueQueue]))
      (aside.queueLaw ⟨replies, down, Nat.le_of_succ_le issues⟩)
  | grantsChannel c f formed ready aside =>
    exact State.queueLaw_of_outer (State.weighs_settleIssue f.entry _).outer (Nat.le_of_eq (by rw [State.settleIssue_issueQueue]))
      (aside.queueLaw law)
  | frees t =>
    exact State.queueLaw_of_outer (State.weighs_freeTag t s).outer (Nat.le_of_eq (by rw [State.freeTag_frame])) law
  | expires t =>
    exact State.queueLaw_of_outer (State.weighs_expireTag t s).outer (Nat.le_of_eq (by rw [State.expireTag_frame])) law
  | answers t =>
    have freed : (s.freeTag t).queueLaw :=
      State.queueLaw_of_outer (State.weighs_freeTag t s).outer (Nat.le_of_eq (by rw [State.freeTag_frame])) law
    exact State.queueLaw_haltIfEmpty (s := State.setChannel _ _ (s.freeTag t)) freed _
  | @lapses u t _ _ aside =>
    have expired : (s.expireTag t).queueLaw :=
      State.queueLaw_of_outer (State.weighs_expireTag t s).outer (Nat.le_of_eq (by rw [State.expireTag_frame])) law
    exact State.queueLaw_haltIfEmpty (s := State.setChannel _ _ u) (aside.queueLaw expired) _
  | flushes q =>
    refine State.queueLaw_of_outer (State.Weighs.trans (State.weighs_foldl (State.weighs_flushTag s.issueQueue q) _ _)
      (State.weighs_foldl State.weighs_flushUntagged _ _)).outer (Nat.le_of_eq (by rw [State.flush_issueQueue])) ?_
    obtain ⟨replies, down, issues⟩ := law
    exact ⟨replies, down, Nat.le_trans (List.length_filter_le _ _) issues⟩
  | loses =>
    exact State.queueLaw_of_outer (State.weighs_takeLoss s).outer (by rw [State.takeLoss_issueQueue]; exact Nat.zero_le _)
      law
  | restarts p =>
    cases p with
    | u => exact ⟨Nat.zero_le _, fun _ => rfl, law.2.2⟩
    | d => exact law
  | popsReply r rest head =>
    obtain ⟨replies, down, issues⟩ := law
    rw [head] at replies down
    exact ⟨Nat.le_of_succ_le replies, fun no => absurd (down no) (List.cons_ne_nil r rest), issues⟩

theorem Deed.queueLaw {wild : Prop} {s t : State} (deed : Deed wild s t) (law : s.queueLaw) : t.queueLaw := by
  cases deed with
  | move h => exact h.queueLaw law
  | reply r slot =>
    obtain ⟨replies, down, issues⟩ := law
    by_cases up : s.uPort.state = .up
    · rw [State.placeReply_up r s up]
      exact ⟨by rw [List.length_append]; exact slot up, fun no => absurd up no, issues⟩
    · rw [State.placeReply_not_up r s up]
      exact ⟨replies, down, issues⟩

theorem Whole.queueLaw {s t : State} (whole : Whole s t) (law : s.queueLaw) : t.queueLaw := by
  cases whole with
  | powersOn => exact State.reset_queueLaw
  | startsUp u => rw [State.startUp_frame]; simp [State.queueLaw, State.reset]
  | gathers | goodImage => exact law
  | badImage words cause => rw [State.failLoad_frame]; exact law
  | badBank i cause other _ loading =>
    rw [State.validationFails_of_loading i cause other loading, State.failLoad_frame]
    exact law
  | comesUp p credit _ init =>
    obtain ⟨replies, down, issues⟩ := law
    rw [State.grantAfterLoading_frame]
    cases p with
    | u => exact ⟨replies, fun no => absurd rfl no, issues⟩
    | d => exact ⟨replies, down, issues⟩

theorem State.queueLaw_tick {s : State} (law : s.queueLaw) : s.tick.queueLaw := by
  unfold State.tick
  split <;> exact law

theorem queueLaw_kept {s t : State} (next : step s = .next t) (law : s.queueLaw) : t.queueLaw :=
  law_kept_of_step (fun _ => id) (fun _ _ => Deed.queueLaw) (fun _ event => event.queueLaw law) State.queueLaw_tick law
    next

/-! ### The command status (R131, R134) -/

theorem State.commandLaw_congr {s t : State} (same : t.command = s.command) (law : s.commandLaw) : t.commandLaw := by
  unfold State.commandLaw at *
  rwa [same]

theorem State.Weighs.commandLaw {s t : State} (h : s.Weighs t) (law : s.commandLaw) : t.commandLaw := by
  induction h with
  | calm h => exact State.commandLaw_congr h.command law
  | swap s _ _ =>
    rw [State.swap_frame]
    simp [State.commandLaw, CommandStatus.commitDone]
  | trans _ _ h k => exact k (h law)

theorem State.Aside.command {s t : State} (h : s.Aside t) : t.command = s.command := by rw [h.frame]

theorem Move.commandLaw {wild : Prop} {s t : State} (move : Move wild s t) (law : s.commandLaw) : t.commandLaw := by
  cases move with
  | aside h => exact State.commandLaw_congr h.command law
  | stages | rewrites | turns | recasts | popsReply => exact law
  | records code operand issuer result valid => simpa [State.commandLaw, CommandStatus.record] using valid
  | begins => simp [State.commandLaw, CommandStatus.commitBegun]
  | invalid i cause other suits => simpa [State.commandLaw, CommandStatus.commitInvalid] using suits
  | drains busy _ _ =>
    obtain ⟨-, rest⟩ := law
    exact ⟨by simp [busy], rest⟩
  | swaps => exact (State.weighs_swapIfDrained s).commandLaw law
  | forwards r kind p => exact State.commandLaw_congr (State.calm_forward r kind p s).command law
  | installs c e copyWrite change =>
    exact State.commandLaw_congr (State.calm_install c e copyWrite change s).command law
  | takesTag c => exact State.commandLaw_congr (State.calm_channelTakesTag c s).command law
  | stops c cause index address => exact (State.weighs_enterDrain c cause index address s).commandLaw law
  | grantsQueue e rest head aside =>
    exact (State.weighs_settleIssue e _).commandLaw (State.commandLaw_congr (s := s) aside.command law)
  | grantsChannel c f formed ready aside =>
    exact (State.weighs_settleIssue f.entry _).commandLaw (State.commandLaw_congr (s := s) aside.command law)
  | frees t => exact (State.weighs_freeTag t s).commandLaw law
  | expires t => exact (State.weighs_expireTag t s).commandLaw law
  | answers t =>
    exact State.commandLaw_congr (State.calm_haltIfEmpty _ _).command ((State.weighs_freeTag t s).commandLaw law)
  | lapses t _ _ aside =>
    exact State.commandLaw_congr ((State.calm_haltIfEmpty _ _).command.trans aside.command)
      ((State.weighs_expireTag t s).commandLaw law)
  | flushes q =>
    exact (State.weighs_foldl State.weighs_flushUntagged _ _).commandLaw
      ((State.weighs_foldl (State.weighs_flushTag s.issueQueue q) _ _).commandLaw law)
  | loses => exact (State.weighs_takeLoss s).commandLaw law
  | restarts p => cases p <;> exact law

theorem Deed.commandLaw {wild : Prop} {s t : State} (deed : Deed wild s t) (law : s.commandLaw) : t.commandLaw := by
  cases deed with
  | move h => exact h.commandLaw law
  | reply r => exact State.commandLaw_congr (by rw [State.placeReply_frame]) law

theorem Whole.commandLaw {s t : State} (whole : Whole s t) (law : s.commandLaw) : t.commandLaw := by
  cases whole with
  | powersOn => exact State.reset_commandLaw
  | startsUp u => rw [State.startUp_frame]; exact State.reset_commandLaw
  | gathers => exact law
  | goodImage => simp [State.commandLaw, State.loadImage, CommandStatus.commitBegun]
  | badImage words cause => rw [State.failLoad_frame]; exact law
  | badBank i cause other suits loading =>
    rw [State.validationFails_of_loading i cause other loading, State.failLoad_frame]
    simpa [State.commandLaw, CommandStatus.commitInvalid] using suits
  | comesUp p => rw [State.grantAfterLoading_frame]; cases p <;> exact law

theorem State.commandLaw_tick {s : State} (law : s.commandLaw) : s.tick.commandLaw := by
  unfold State.tick
  split <;> exact law

theorem commandLaw_kept {s t : State} (next : step s = .next t) (law : s.commandLaw) : t.commandLaw :=
  law_kept_of_step (fun _ => id) (fun _ _ => Deed.commandLaw) (fun _ event => event.commandLaw law)
    State.commandLaw_tick law next

/-! ### Run states (R23) -/

/-- A region record is lawful: QUIESCED holds no item, QUIESCING holds one. -/
def RegionStatus.lawful (r : RegionStatus) : Prop :=
  (r.runState = .quiesced → r.inFlight = 0) ∧ (r.runState = .quiescing → 0 < r.inFlight)

theorem State.quiesceLaw_congr {s t : State} (same : t.regions = s.regions) (law : s.quiesceLaw) : t.quiesceLaw := by
  unfold State.quiesceLaw at *
  rwa [same]

theorem State.quiesceLaw_set {s : State} (law : s.quiesceLaw) (r : Fin 64) {x : RegionStatus} (lawful : x.lawful) :
    (s.setRegion r x).quiesceLaw := by
  intro i
  simp only [State.setRegion_regions, getElem_set_fin]
  split
  · exact lawful
  · exact law i

theorem RegionStatus.lawful_fall {r : RegionStatus} (lawful : r.lawful) : r.fall.lawful := by
  obtain ⟨zero, pos⟩ := lawful
  unfold RegionStatus.lawful RegionStatus.fall
  cases runState : r.runState with
  | opened => simp
  | quiescing =>
    by_cases last : r.inFlight - 1 = 0
    · simp [last]
    · simp [last]
      omega
  | quiesced => simp [zero runState]

theorem State.quiesceLaw_fall {s : State} (law : s.quiesceLaw) (r : Fin 64) (g : BitVec 8) : (s.fall r g).quiesceLaw := by
  rw [State.fall_frame]
  exact State.quiesceLaw_set law r (RegionStatus.lawful_fall (law r))

theorem State.quiesceLaw_endCounts {s : State} (law : s.quiesceLaw) (r : TagRecord) : (s.endCounts r).quiesceLaw := by
  unfold State.endCounts
  dsimp only
  have lowered : (if r.owes then s.lowerOutstanding r.ownerRequester else s).quiesceLaw := by
    split <;> exact law
  split
  · exact State.quiesceLaw_fall lowered _ _
  · exact lowered

theorem State.quiesceLaw_freeTag {s : State} (law : s.quiesceLaw) (t : Fin 48) : (s.freeTag t).quiesceLaw := by
  unfold State.freeTag
  split
  · exact law
  · exact State.quiesceLaw_endCounts (s := s.putFree t) law _

theorem State.quiesceLaw_expireTag {s : State} (law : s.quiesceLaw) (t : Fin 48) : (s.expireTag t).quiesceLaw := by
  unfold State.expireTag
  split
  · exact State.quiesceLaw_endCounts (s := s.setTag t _) law _
  · exact law

theorem State.quiesceLaw_settleIssue {s : State} (law : s.quiesceLaw) (e : IssueEntry) :
    (s.settleIssue e).quiesceLaw := by
  unfold State.settleIssue
  split
  · exact State.quiesceLaw_congr (by rw [State.issueTag_frame]) law
  · exact State.quiesceLaw_fall law _ _

theorem State.quiesceLaw_haltIfEmpty {s : State} (law : s.quiesceLaw) (c : Fin 2) : (s.haltIfEmpty c).quiesceLaw :=
  State.quiesceLaw_congr (by rw [State.haltIfEmpty_frame]) law

theorem State.quiesceLaw_enterDrain {s : State} (law : s.quiesceLaw) (c : Fin 2) (cause : HaltCause)
    (index : Option (Fin 64)) (address : Option Address) : (s.enterDrain c cause index address).quiesceLaw := by
  unfold State.enterDrain State.dropFormed
  dsimp only
  repeat' split
  all_goals refine State.quiesceLaw_haltIfEmpty ?_ c
  · exact State.quiesceLaw_fall law _ _
  all_goals exact law

theorem State.quiesceLaw_flush {s : State} (law : s.quiesceLaw) (queue removed : List IssueEntry) (q : Fin 16) :
    (removed.foldl State.flushUntagged ((List.finRange 48).foldl (State.flushTag queue q) s)).quiesceLaw := by
  refine kept_foldl (fun u e law => ?_) _ (kept_foldl (fun u t law => ?_) _ law)
  · unfold State.flushUntagged
    split
    · exact State.quiesceLaw_fall law _ _
    · exact law
  · unfold State.flushTag
    split
    · exact State.quiesceLaw_freeTag law t
    · exact law

theorem State.quiesceLaw_takeLoss (s : State) : (s.takeLoss .d).quiesceLaw := by
  unfold State.takeLoss
  dsimp only
  rw [State.endAllInFlight_frame]
  intro r
  simp only [mapTable_getElem, RegionStatus.lose]
  refine ⟨fun _ => trivial, ?_⟩
  split
  · exact RunState.noConfusion
  next other => exact fun quiescing => absurd (beq_iff_eq.mpr quiescing) other

/-- The regions of a state with one more item at an open index. -/
theorem State.quiesceLaw_rise {s t : State} (law : s.quiesceLaw) {r : Fin 64} (opened : (s.regions[r]).runState = .opened)
    (regions : t.regions = (s.rise r).regions) : t.quiesceLaw := by
  refine State.quiesceLaw_congr regions (State.quiesceLaw_set law r ?_)
  simp only [RegionStatus.lawful, opened]
  exact ⟨RunState.noConfusion, RunState.noConfusion⟩

theorem State.takeTag_regions (r : TagRecord) (s : State) : (s.takeTag r).2.regions = s.regions := by
  rw [State.takeTag_frame]

theorem State.install_regions (c : Fin 2) (e : IssueEntry) (copyWrite : Bool)
    (change : Option (Fin 48) → Channel → Channel) (s : State) :
    (s.install c e copyWrite change).regions = (s.rise e.index).regions := by
  unfold State.install State.takeFormedTag
  dsimp only
  split
  · rfl
  · rw [State.setChannel_regions, State.takeTag_regions]

theorem State.forward_regions (r : Request) (kind : RequestKind) (p : Passage) (s : State) :
    (s.forward r kind p).regions = (s.rise p.index).regions := by
  have same : (s.takeForwardTag r kind p).2.regions = s.regions := by
    unfold State.takeForwardTag
    split
    · rfl
    · exact State.takeTag_regions _ s
  unfold State.forward State.rise State.updateRequester
  dsimp only
  simp only [State.setRequester_regions, State.setRegion_regions, same]

theorem State.channelTakesTag_regions (c : Fin 2) (s : State) : (s.channelTakesTag c).regions = s.regions := by
  obtain same | ⟨f, t, rest, -, -, -, taken⟩ := s.channelTakesTag_cases c
  · rw [same]
  · rw [taken]

theorem State.Aside.regions {s t : State} (h : s.Aside t) : t.regions = s.regions := by rw [h.frame]

theorem Move.quiesceLaw {wild : Prop} {s t : State} (move : Move wild s t) (law : s.quiesceLaw) : t.quiesceLaw := by
  cases move with
  | aside h => exact State.quiesceLaw_congr h.regions law
  | stages | records | begins | invalid | drains | rewrites | recasts | popsReply => exact law
  | swaps => exact State.quiesceLaw_congr (by rw [State.swapIfDrained_frame]) law
  | turns r runState suits => exact State.quiesceLaw_set law r suits
  | forwards r kind p passed => exact State.quiesceLaw_rise law passed.opened (State.forward_regions r kind p s)
  | installs c e copyWrite change passed =>
    exact State.quiesceLaw_rise law passed.opened (State.install_regions c e copyWrite change s)
  | takesTag c => exact State.quiesceLaw_congr (State.channelTakesTag_regions c s) law
  | stops c cause index address => exact State.quiesceLaw_enterDrain law c cause index address
  | grantsQueue e rest head aside =>
    exact State.quiesceLaw_settleIssue (State.quiesceLaw_congr (s := s) aside.regions law) e
  | grantsChannel c f formed ready aside =>
    exact State.quiesceLaw_settleIssue (State.quiesceLaw_congr (s := s) aside.regions law) f.entry
  | frees t => exact State.quiesceLaw_freeTag law t
  | expires t => exact State.quiesceLaw_expireTag law t
  | answers t =>
    exact State.quiesceLaw_haltIfEmpty (s := State.setChannel _ _ (s.freeTag t)) (State.quiesceLaw_freeTag law t) _
  | @lapses u t _ _ aside =>
    exact State.quiesceLaw_haltIfEmpty (s := State.setChannel _ _ u)
      (State.quiesceLaw_congr aside.regions (State.quiesceLaw_expireTag law t)) _
  | flushes q => exact State.quiesceLaw_flush (s := { s with issueQueue := s.issueQueue.filter (fun e => e.requester != q) }) law _ _ q
  | loses => exact State.quiesceLaw_takeLoss s
  | restarts p => cases p <;> exact law

theorem Deed.quiesceLaw {wild : Prop} {s t : State} (deed : Deed wild s t) (law : s.quiesceLaw) : t.quiesceLaw := by
  cases deed with
  | move h => exact h.quiesceLaw law
  | reply r => exact State.quiesceLaw_congr (by rw [State.placeReply_frame]) law

theorem Whole.quiesceLaw {s t : State} (whole : Whole s t) (law : s.quiesceLaw) : t.quiesceLaw := by
  cases whole with
  | powersOn => exact State.reset_quiesceLaw
  | startsUp u => rw [State.startUp_frame]; exact State.reset_quiesceLaw
  | gathers | goodImage => exact law
  | badImage words cause => rw [State.failLoad_frame]; exact law
  | badBank i cause other suits loading =>
    rw [State.validationFails_of_loading i cause other loading, State.failLoad_frame]
    exact law
  | comesUp p => rw [State.grantAfterLoading_frame]; cases p <;> exact law

theorem State.quiesceLaw_tick {s : State} (law : s.quiesceLaw) : s.tick.quiesceLaw := by
  unfold State.tick
  split <;> exact law

theorem quiesceLaw_kept {s t : State} (next : step s = .next t) (law : s.quiesceLaw) : t.quiesceLaw :=
  law_kept_of_step (fun _ => id) (fun _ _ => Deed.quiesceLaw) (fun _ event => event.quiesceLaw law)
    State.quiesceLaw_tick law next

/-- Settles O5: each of the four laws is kept by every move, every reply and every whole event. -/
theorem logQueueCommandAndRunStateLawsKept : Obligations.LogQueueCommandAndRunStateLawsKept :=
  fun _ _ next => ⟨logLaw_kept next, queueLaw_kept next, commandLaw_kept next, quiesceLaw_kept next⟩

end Sys2Proof.Machine

/-! The laws of the ports, of the banks, of loading and of the managers (R18, R32, R34, R139, R144 to R159, R170). -/

namespace Sys2Proof.Machine

/-! ### The ports -/

/-- A port that withholds grants 16 when it is UP (R158, R169). -/
def LinkPort.granted (l : LinkPort) : LinkPort :=
  if l.state = .up ∧ l.withholds = true then { l with allowance := l.allowance + 16, withholds := false } else l

theorem State.grantWithheld_uPort (s : State) : s.grantWithheld.uPort = s.uPort.granted := by
  unfold State.grantWithheld LinkPort.granted
  by_cases h : s.uPort.state = .up ∧ s.uPort.withholds = true
  · rw [if_pos h, if_pos (by simp [h])]
    rfl
  · rw [if_neg h, if_neg (by simpa using h)]

theorem LinkPort.granted_state (l : LinkPort) : l.granted.state = l.state := by
  unfold LinkPort.granted
  split <;> rfl

theorem LinkPort.law.granted {l : LinkPort} (law : l.law) : l.granted.law := by
  unfold LinkPort.granted
  split
  next h => exact LinkPort.law_granted law h.1 h.2
  · exact law

/-- After the grant, a port in UP withholds nothing. -/
theorem LinkPort.granted_withholds {l : LinkPort} (up : l.state = .up) : l.granted.withholds = false := by
  unfold LinkPort.granted
  by_cases holds : l.withholds = true
  · simp [up, holds]
  · simp [holds]

/-- At the end of loading the U port grants what it withholds. -/
theorem State.portLaw_ended {s t : State} (law : s.portLaw) (uPort : t.uPort = s.uPort.granted)
    (dPort : t.dPort = s.dPort) (resetHeld : t.resetHeld = s.resetHeld) (mode : t.mode ≠ .loading) : t.portLaw := by
  obtain ⟨uLaw, dLaw, uDown, dDown, dWithholds, -, -⟩ := law
  unfold State.portLaw
  rw [uPort, dPort, resetHeld, LinkPort.granted_state]
  exact ⟨uLaw.granted, dLaw, uDown, dDown, dWithholds, fun loading => absurd loading mode,
    fun _ up => LinkPort.granted_withholds up⟩

theorem State.portLaw_congr {s t : State} (uPort : t.uPort = s.uPort) (dPort : t.dPort = s.dPort)
    (resetHeld : t.resetHeld = s.resetHeld) (mode : t.mode = s.mode) (law : s.portLaw) : t.portLaw := by
  unfold State.portLaw at *
  rwa [uPort, dPort, resetHeld, mode]

theorem State.Calm.portLaw {s t : State} (h : s.Calm t) (law : s.portLaw) : t.portLaw :=
  State.portLaw_congr h.uPort h.dPort h.resetHeld h.mode law

theorem State.swap_of_loading {s : State} (loading : s.mode = .loading) :
    s.swap = State.grantWithheld (State.raise .command { s with
      active := s.staging, generation := s.generation + 1#8, previousTotal := s.currentTotal, currentTotal := 0
      command := s.command.commitDone, mode := .normal }) := by
  simp [State.swap, loading]

theorem State.swap_of_not_loading {s : State} (ended : s.mode ≠ .loading) :
    s.swap = State.raise .command { s with
      active := s.staging, generation := s.generation + 1#8, previousTotal := s.currentTotal, currentTotal := 0
      command := s.command.commitDone, mode := .normal } := by
  simp [State.swap, ended]

theorem State.portLaw_swap {s : State} (law : s.portLaw) : s.swap.portLaw := by
  by_cases loading : s.mode = .loading
  · rw [State.swap_of_loading loading]
    refine State.portLaw_ended law (State.grantWithheld_uPort _) ?_ ?_ ?_ <;> rw [State.grantWithheld_frame]
    · rfl
    · rfl
    · exact GateMode.noConfusion
  · rw [State.swap_of_not_loading loading]
    obtain ⟨uLaw, dLaw, uDown, dDown, dWithholds, -, ended⟩ := law
    exact ⟨uLaw, dLaw, uDown, dDown, dWithholds, GateMode.noConfusion, fun _ => ended loading⟩

theorem State.Weighs.portLaw {s t : State} (h : s.Weighs t) (law : s.portLaw) : t.portLaw := by
  induction h with
  | calm h => exact h.portLaw law
  | swap s _ _ => exact State.portLaw_swap law
  | trans _ _ h k => exact k (h law)

theorem State.Aside.portLaw {s t : State} (h : s.Aside t) (law : s.portLaw) : t.portLaw := by
  obtain ⟨uLaw, dLaw, uDown, dDown, dWithholds, loading, ended⟩ := law
  have mode : t.mode = s.mode := by rw [h.frame]
  have resetHeld : t.resetHeld = s.resetHeld := by rw [h.frame]
  unfold State.portLaw
  rw [h.uPort.state, h.uPort.withholds, h.dPort.state, h.dPort.withholds, mode, resetHeld]
  exact ⟨h.uPort.law uLaw, h.dPort.law dLaw, uDown, dDown, dWithholds, loading, ended⟩

/-- In a lawful state no packet waits at a U port that is DOWN or while the mode is LOADING. -/
theorem State.not_wild_of_portLaw {s : State} (law : s.portLaw) : ¬s.wild := by
  obtain ⟨⟨cleared, -, -, -, withhold, -⟩, -, -, -, -, loading, -⟩ := law
  rintro ⟨filled, event⟩
  have empty_of_down (down : s.uPort.state = .down) : s.uPort.inbound = [] := by
    obtain ⟨-, -, -, -, -, -, -, -, -, -, -, -, empty⟩ := cleared (by rw [down]; decide)
    exact empty
  by_cases down : s.uPort.state = .down
  · exact filled (empty_of_down down)
  · obtain mode | down' := event
    · exact filled (withhold (loading mode down)).2.2.2
    · exact down down'

/-- A port that enters INIT advertises 16, or 0 at the U port while the mode is LOADING (R144). -/
theorem State.portLaw_downAndInit {s : State} (law : s.portLaw) (free : s.resetHeld = false) (p : Port) :
    (s.downAndInit p).portLaw := by
  obtain ⟨uLaw, dLaw, uDown, dDown, dWithholds, loading, ended⟩ := law
  cases p with
  | u =>
    have advertises : s.advertisement .u = 0 ∨ s.advertisement .u = 16 := by
      cases mode : s.mode <;> simp [State.advertisement, mode]
    refine ⟨LinkPort.law_enterInit _ _ _ advertises, dLaw, ?_, dDown, dWithholds, fun mode _ => ?_, fun _ up => ?_⟩
    · exact ⟨fun down => absurd down PortState.noConfusion, fun held => by
        rw [show (s.downAndInit .u).resetHeld = s.resetHeld from rfl, free] at held; cases held⟩
    · have mode : s.mode = .loading := mode
      have zero : s.advertisement .u = 0 := by simp [State.advertisement, mode]
      rw [State.downAndInit_u]
      simp [LinkPort.enterInit, zero]
    · cases up
  | d =>
    have advertises : s.advertisement .d = 16 := by cases mode : s.mode <;> simp [State.advertisement]
    refine ⟨uLaw, LinkPort.law_enterInit _ _ _ (.inr advertises), uDown, ?_, ?_, loading, ended⟩
    · exact ⟨fun down => absurd down PortState.noConfusion, fun held => by
        rw [show (s.downAndInit .d).resetHeld = s.resetHeld from rfl, free] at held; cases held⟩
    · rw [State.downAndInit_d]
      simp [LinkPort.enterInit, advertises]

/-- A port is not DOWN: the reset pin is not held. -/
theorem State.released_of_portLaw {s : State} (law : s.portLaw) {p : Port}
    (alive : (s.port p).state ≠ .down ∨ s.uPort.state ≠ .down) : s.resetHeld = false := by
  obtain ⟨-, -, uDown, dDown, -⟩ := law
  refine Bool.eq_false_iff.mpr fun held => ?_
  obtain own | up := alive
  · cases p with
    | u => exact own (uDown.mpr held)
    | d => exact own (dDown.mpr held)
  · exact up (uDown.mpr held)

theorem Move.portLaw {wild : Prop} (tame : ¬wild) {s t : State} (move : Move wild s t) (law : s.portLaw) :
    t.portLaw := by
  cases move with
  | aside h => exact h.portLaw law
  | stages | records | begins | invalid | drains | rewrites | turns | recasts | popsReply => exact law
  | swaps => exact (State.weighs_swapIfDrained s).portLaw law
  | forwards r kind p => exact (State.calm_forward r kind p s).portLaw law
  | installs c e copyWrite change => exact (State.calm_install c e copyWrite change s).portLaw law
  | takesTag c => exact (State.calm_channelTakesTag c s).portLaw law
  | stops c cause index address => exact (State.weighs_enterDrain c cause index address s).portLaw law
  | grantsQueue e rest head aside =>
    refine (State.weighs_settleIssue e _).portLaw (aside.portLaw ?_)
    exact law
  | grantsChannel c f formed ready aside =>
    refine (State.weighs_settleIssue f.entry _).portLaw (aside.portLaw ?_)
    exact law
  | frees t => exact (State.weighs_freeTag t s).portLaw law
  | expires t => exact (State.weighs_expireTag t s).portLaw law
  | answers t =>
    refine (State.calm_haltIfEmpty _ _).portLaw ((State.calm_setChannel _ _ _).portLaw ?_)
    exact (State.weighs_freeTag t s).portLaw law
  | lapses t _ _ aside =>
    refine (State.calm_haltIfEmpty _ _).portLaw ((State.calm_setChannel _ _ _).portLaw ?_)
    exact aside.portLaw ((State.weighs_expireTag t s).portLaw law)
  | flushes q =>
    refine (State.weighs_foldl State.weighs_flushUntagged _ _).portLaw
      ((State.weighs_foldl (State.weighs_flushTag s.issueQueue q) _ _).portLaw ?_)
    exact law
  | loses => exact (State.weighs_takeLoss s).portLaw law
  | restarts p alive =>
    exact State.portLaw_downAndInit law (State.released_of_portLaw law (by simpa [tame] using alive)) p

theorem Deed.portLaw {wild : Prop} (tame : ¬wild) {s t : State} (deed : Deed wild s t) (law : s.portLaw) :
    t.portLaw := by
  cases deed with
  | move h => exact h.portLaw tame law
  | reply r => rw [State.placeReply_frame]; exact law

theorem State.portLaw_failLoad {s : State} (law : s.portLaw) (cause : ImageCause) (index other : Option (Fin 64)) :
    (s.failLoad cause index other).portLaw := by
  refine State.portLaw_ended law ?_ ?_ ?_ ?_
  · unfold State.failLoad
    rw [State.grantWithheld_uPort, State.takeFault_frame]
  all_goals rw [State.failLoad_frame]
  exact GateMode.noConfusion

theorem State.grantAfterLoading_cases (p : Port) (s : State) :
    (p = .u ∧ s.mode ≠ .loading ∧ s.grantAfterLoading p = s.grantWithheld) ∨
      ((p = .d ∨ s.mode = .loading) ∧ s.grantAfterLoading p = s) := by
  unfold State.grantAfterLoading
  split <;> simp [*]

theorem State.portLaw_comesUp {s : State} (law : s.portLaw) {p : Port} {credit : Nat} (bound : credit ≤ 64)
    (init : (s.port p).state = .init) :
    (((s.updatePort p (fun l => l.enterUp credit)).raise .link).grantAfterLoading p).portLaw := by
  have released := State.released_of_portLaw law (p := p) (.inl (by rw [init]; decide))
  obtain ⟨uLaw, dLaw, uDown, dDown, dWithholds, loading, ended⟩ := law
  cases p with
  | d =>
    obtain ⟨no, -⟩ | ⟨-, same⟩ := State.grantAfterLoading_cases .d
      ((s.updatePort .d (fun l => l.enterUp credit)).raise .link)
    · cases no
    rw [same]
    exact ⟨uLaw, LinkPort.law_enterUp dLaw init bound, uDown,
      ⟨fun down => absurd down PortState.noConfusion, fun held => by cases released.symm.trans held⟩, dWithholds, loading,
      ended⟩
  | u =>
    have upLaw := LinkPort.law_enterUp uLaw init bound
    obtain ⟨-, mode, same⟩ | ⟨no | mode, same⟩ := State.grantAfterLoading_cases .u
      ((s.updatePort .u (fun l => l.enterUp credit)).raise .link)
    · rw [same]
      unfold State.portLaw
      rw [State.grantWithheld_uPort, State.grantWithheld_frame, LinkPort.granted_state]
      exact ⟨upLaw.granted, dLaw,
        ⟨fun down => absurd down PortState.noConfusion, fun held => by cases released.symm.trans held⟩, dDown,
        dWithholds, fun loading => absurd loading mode, fun _ up => LinkPort.granted_withholds up⟩
    · cases no
    · rw [same]
      have mode : s.mode = .loading := mode
      exact ⟨upLaw, dLaw,
        ⟨fun down => absurd down PortState.noConfusion, fun held => by cases released.symm.trans held⟩, dDown,
        dWithholds, fun _ _ => loading mode (fun down => PortState.noConfusion (init.symm.trans down)),
        fun other => absurd mode other⟩

theorem State.portLaw_startUp (u : State) : u.startUp.portLaw := by
  rw [State.startUp_frame]
  refine ⟨LinkPort.law_enterInit _ 0 _ (.inl rfl), LinkPort.law_enterInit _ 16 _ (.inr rfl), ?_⟩
  simp [LinkPort.enterInit]

theorem Whole.portLaw {s t : State} (whole : Whole s t) (law : s.portLaw) : t.portLaw := by
  cases whole with
  | powersOn => exact State.reset_portLaw
  | startsUp u => exact State.portLaw_startUp u
  | gathers | goodImage => exact law
  | badImage words cause => exact State.portLaw_failLoad (s := s.endRead) law _ _ _
  | badBank i cause other _ loading =>
    rw [State.validationFails_of_loading i cause other loading]
    refine State.portLaw_failLoad ?_ _ _ _
    exact law
  | comesUp p credit bound init => exact State.portLaw_comesUp law bound init

theorem State.portLaw_tick {s : State} (law : s.portLaw) : s.tick.portLaw := by
  unfold State.tick
  split <;> exact law

/-- Settles O6: the law of each port is kept change by change, and the ports change in no other way. -/
theorem portLawKept : Obligations.PortLawKept := fun _ _ law next =>
  law_kept_of_step (fun _ => id) (fun _ _ => Deed.portLaw (State.not_wild_of_portLaw law))
    (fun _ event => event.portLaw law) State.portLaw_tick law next

/-! ### The banks (R15, R18) -/

/-- A bank that passes validation is lawful: of two entries the lower one has been compared with the higher. -/
theorem bankLawful_of_validate {b : Bank} (passes : validate b = none) : bankLawful b := by
  have each := (validate_eq_none_iff b).mp passes
  intro i valid
  obtain ⟨pages, -, down, up, below⟩ := each i valid
  refine ⟨pages, up, down, fun j differ validJ => ?_⟩
  obtain lower | same | higher := Nat.lt_trichotomy j.val i.val
  · exact below j lower validJ
  · exact absurd (Fin.ext same) differ
  · obtain ⟨-, -, -, -, belowJ⟩ := each j validJ
    exact (belowJ i higher valid).symm

theorem State.bankLaw_congr {s t : State} (active : t.active = s.active) (staging : t.staging = s.staging)
    (command : t.command = s.command) (law : s.bankLaw) : t.bankLaw := by
  unfold State.bankLaw at *
  rwa [active, staging, command]

theorem State.Weighs.bankLaw {s t : State} (h : s.Weighs t) (law : s.bankLaw) : t.bankLaw := by
  induction h with
  | calm h => exact State.bankLaw_congr h.active h.staging h.command law
  | swap s drain _ =>
    rw [State.swap_frame]
    exact ⟨law.2 drain, by simp [CommandStatus.commitDone]⟩
  | trans _ _ h k => exact k (h law)

theorem State.Aside.bankLaw {s t : State} (h : s.Aside t) (law : s.bankLaw) : t.bankLaw :=
  State.bankLaw_congr (by rw [h.frame]) (by rw [h.frame]) h.command law

theorem Move.bankLaw {wild : Prop} {s t : State} (move : Move wild s t) (commandLaw : s.commandLaw)
    (law : s.bankLaw) : t.bankLaw := by
  cases move with
  | aside h => exact h.bankLaw law
  | rewrites | turns | recasts | popsReply => exact law
  | stages b idle =>
    have absent : s.command.phase = none := by simpa [idle] using commandLaw.1
    exact ⟨law.1, by simp [absent]⟩
  | records => exact ⟨law.1, by simp [CommandStatus.record]⟩
  | begins => exact ⟨law.1, by simp [CommandStatus.commitBegun]⟩
  | invalid => exact ⟨law.1, by simp [CommandStatus.commitInvalid]⟩
  | drains _ _ passes => exact ⟨law.1, fun _ => bankLawful_of_validate passes⟩
  | swaps => exact (State.weighs_swapIfDrained s).bankLaw law
  | forwards r kind p => exact (State.Weighs.calm (State.calm_forward r kind p s)).bankLaw law
  | installs c e copyWrite change => exact (State.Weighs.calm (State.calm_install c e copyWrite change s)).bankLaw law
  | takesTag c => exact (State.Weighs.calm (State.calm_channelTakesTag c s)).bankLaw law
  | stops c cause index address => exact (State.weighs_enterDrain c cause index address s).bankLaw law
  | grantsQueue e rest head aside =>
    refine (State.weighs_settleIssue e _).bankLaw (aside.bankLaw ?_)
    exact law
  | grantsChannel c f formed ready aside =>
    refine (State.weighs_settleIssue f.entry _).bankLaw (aside.bankLaw ?_)
    exact law
  | frees t => exact (State.weighs_freeTag t s).bankLaw law
  | expires t => exact (State.weighs_expireTag t s).bankLaw law
  | answers t =>
    refine (State.Weighs.calm ((State.calm_setChannel _ _ _).trans (State.calm_haltIfEmpty _ _))).bankLaw ?_
    exact (State.weighs_freeTag t s).bankLaw law
  | lapses t _ _ aside =>
    refine (State.Weighs.calm ((State.calm_setChannel _ _ _).trans (State.calm_haltIfEmpty _ _))).bankLaw ?_
    exact aside.bankLaw ((State.weighs_expireTag t s).bankLaw law)
  | flushes q =>
    refine (State.weighs_foldl State.weighs_flushUntagged _ _).bankLaw
      ((State.weighs_foldl (State.weighs_flushTag s.issueQueue q) _ _).bankLaw ?_)
    exact law
  | loses => exact (State.weighs_takeLoss s).bankLaw law
  | restarts p => cases p <;> exact law

theorem Deed.bankLaw {wild : Prop} {s t : State} (deed : Deed wild s t) (commandLaw : s.commandLaw) (law : s.bankLaw) :
    t.bankLaw := by
  cases deed with
  | move h => exact h.bankLaw commandLaw law
  | reply r => rw [State.placeReply_frame]; exact law

theorem Whole.bankLaw {s t : State} (whole : Whole s t) (law : s.bankLaw) : t.bankLaw := by
  cases whole with
  | powersOn => exact State.reset_bankLaw
  | startsUp u => rw [State.startUp_frame]; exact State.reset_bankLaw
  | gathers => exact law
  | goodImage => exact ⟨law.1, by simp [State.loadImage, CommandStatus.commitBegun]⟩
  | badImage words cause => rw [State.failLoad_frame]; exact law
  | badBank i cause other _ loading =>
    rw [State.validationFails_of_loading i cause other loading, State.failLoad_frame]
    exact ⟨law.1, by simp [CommandStatus.commitInvalid]⟩
  | comesUp p => rw [State.grantAfterLoading_frame]; cases p <;> exact law

theorem State.bankLaw_tick {s : State} (law : s.bankLaw) : s.tick.bankLaw := by
  unfold State.tick
  split <;> exact law

/-- Settles O7: only a swap changes the active bank, and what it copies has passed validation. -/
theorem bankLawKept : Obligations.BankLawKept := by
  intro s t commandLaw law next
  have both : t.commandLaw ∧ t.bankLaw :=
    law_kept_of_step (P := fun u => u.commandLaw ∧ u.bankLaw) (fun _ => id)
      (fun _ _ deed laws => ⟨deed.commandLaw laws.1, deed.bankLaw laws.1 laws.2⟩)
      (fun _ event => ⟨event.commandLaw commandLaw, event.bankLaw law⟩)
      (fun laws => ⟨State.commandLaw_tick laws.1, State.bankLaw_tick laws.2⟩) ⟨commandLaw, law⟩ next
  exact both.2

end Sys2Proof.Machine

/-! While the mode is LOADING the gate is quiet, and once it has ended there is an OPEN manager (R32, R34, R163, R170). -/

namespace Sys2Proof.Machine

/-! ### What loading leaves quiet -/

/-- Nothing is admitted or formed. -/
def State.quiet (s : State) : Prop :=
  (∀ t : Fin 48, (s.tags[t]).state = .free) ∧ (∀ c : Fin 2, (s.channels[c]).state = .idle) ∧ s.issueQueue = [] ∧
    s.uPort.inbound = []

/-- The loading law of a gate whose loader is not reading and whose pin is not held. -/
theorem State.loadingLaw_of_still {s : State} (loader : s.loader = none) (released : s.resetHeld = false)
    (quiet : s.mode = .loading → s.quiet) (active : s.mode ≠ .normal → ∀ i : Fin 64, (s.active[i]).valid = false) :
    s.loadingLaw :=
  ⟨by simp [loader], by simp [released], quiet, active⟩

/-- A calm change keeps the loading law when it keeps the gate quiet. -/
theorem State.Calm.loadingLaw {s t : State} (h : s.Calm t) (quiet : s.mode = .loading → s.quiet → t.quiet)
    (law : s.loadingLaw) : t.loadingLaw := by
  obtain ⟨reading, held, still, active⟩ := law
  unfold State.loadingLaw
  rw [h.loader, h.mode, h.command, h.resetHeld, h.active]
  exact ⟨reading, held, fun loading => quiet loading (still loading), active⟩

/-- Nothing passes the region check while loading: no active entry is valid. -/
theorem State.Passed.not_loading {s : State} {index : Fin 64} {generation : BitVec 8} (passed : s.Passed index generation)
    (law : s.loadingLaw) : s.mode ≠ .loading := by
  obtain ⟨-, -, -, active⟩ := law
  obtain ⟨i, valid⟩ := passed.valid
  intro loading
  rw [active (by rw [loading]; decide) i] at valid
  cases valid

/-- A swap ends loading: it is that of a command unit that is BUSY. -/
theorem State.loadingLaw_swap {s : State} (commandLaw : s.commandLaw) (drain : s.command.phase = some .drain)
    (law : s.loadingLaw) : s.swap.loadingLaw := by
  obtain ⟨reading, held, -, -⟩ := law
  have busy : s.command.busy = true := commandLaw.1.mp (by rw [drain]; rfl)
  have loader : s.loader = none := by
    cases l : s.loader with
    | none => rfl
    | some words => exact absurd (busy.symm.trans (reading (by rw [l]; rfl)).2) Bool.noConfusion
  have released : s.resetHeld = false := by
    cases r : s.resetHeld with
    | false => rfl
    | true => exact absurd (busy.symm.trans (held r).2.2) Bool.noConfusion
  rw [State.swap_frame]
  exact State.loadingLaw_of_still loader released GateMode.noConfusion (fun no => absurd rfl no)

/-- What ends items keeps the loading law outside LOADING. -/
theorem State.Weighs.loadingLaw {s t : State} (h : s.Weighs t) (commandLaw : s.commandLaw) (ended : s.mode ≠ .loading)
    (law : s.loadingLaw) : t.loadingLaw ∧ t.mode ≠ .loading := by
  induction h with
  | calm h => exact ⟨h.loadingLaw (fun loading => absurd loading ended) law, h.mode ▸ ended⟩
  | swap s drain _ =>
    exact ⟨State.loadingLaw_swap commandLaw drain law, by rw [State.swap_frame]; exact GateMode.noConfusion⟩
  | trans h _ first second =>
    obtain ⟨law', ended'⟩ := first commandLaw ended law
    exact second (h.commandLaw commandLaw) ended' law'

theorem State.Aside.loadingLaw {s t : State} (h : s.Aside t) (portLaw : s.portLaw) (law : s.loadingLaw) :
    t.loadingLaw := by
  obtain ⟨reading, held, quiet, active⟩ := law
  obtain ⟨⟨cleared, -, -, -, withhold, -⟩, -, -, -, -, withholds, -⟩ := portLaw
  have frame := h.frame
  have still (loading : s.mode = .loading) : t.uPort.inbound = [] := by
    obtain ⟨-, -, -, inbound⟩ := quiet loading
    refine h.uPort.inbound inbound ?_
    by_cases down : s.uPort.state = .down
    · obtain ⟨-, -, -, -, -, -, -, -, -, allowance, -⟩ := cleared (by rw [down]; decide)
      exact allowance
    · exact (withhold (withholds loading down)).2.1
  have mode : t.mode = s.mode := by rw [frame]
  refine ⟨?_, ?_, fun loading => ?_, ?_⟩
  · rw [frame]; exact reading
  · rw [frame]; exact held
  · obtain ⟨tags, channels, issue, -⟩ := quiet (mode ▸ loading)
    refine ⟨?_, ?_, ?_, still (mode ▸ loading)⟩
    · rw [frame]; exact tags
    · rw [frame]; exact channels
    · rw [frame]; exact issue
  · rw [frame]; exact active

/-- A tag in use shows that loading has ended. -/
theorem State.loadingLaw.ended_of_tag {s : State} (law : s.loadingLaw) {t : Fin 48} (used : (s.tags[t]).state ≠ .free) :
    s.mode ≠ .loading := fun loading => used ((law.2.2.1 loading).1 t)

theorem State.loadingLaw.ended_of_channel {s : State} (law : s.loadingLaw) {c : Fin 2}
    (active : (s.channels[c]).state ≠ .idle) : s.mode ≠ .loading := fun loading => active ((law.2.2.1 loading).2.1 c)

theorem State.loadingLaw.ended_of_queue {s : State} (law : s.loadingLaw) (filled : s.issueQueue ≠ []) :
    s.mode ≠ .loading := fun loading => filled (law.2.2.1 loading).2.2.1

/-- While loading, the loss of the D port finds nothing to settle. -/
theorem State.quiet.takeLoss {s : State} (quiet : s.quiet) :
    s.takeLoss .d = State.endAllInFlight { s with issueQueue := [] } := by
  obtain ⟨tags, channels, issue, -⟩ := quiet
  have closed : s.closeTags = s := by
    have each (l : List (Fin 48)) : l.foldl State.closeTag s = s := by
      induction l with
      | nil => rfl
      | cons t rest ih =>
        have same : s.closeTag t = s := by
          unfold State.closeTag
          simp only [tags t]
        rw [List.foldl_cons, same, ih]
    exact each _
  have emptied : s.emptyIssueQueue = { s with issueQueue := [] } := by
    simp [State.emptyIssueQueue, issue]
  have kept (c : Fin 2) (u : State) (same : u.channels = s.channels) : u.loseChannel c = u := by
    have idle : (u.channels[c]).state = .idle := by rw [same]; exact channels c
    unfold State.loseChannel
    dsimp only
    rw [if_neg (by rw [Channel.running_iff, idle]; decide), if_neg (by rw [idle]; decide)]
  unfold State.takeLoss
  dsimp only
  rw [closed, emptied, kept 0 { s with issueQueue := [] } rfl, kept 1 { s with issueQueue := [] } rfl]

theorem State.loadingLaw_takeLoss {s : State} (commandLaw : s.commandLaw) (law : s.loadingLaw) :
    (s.takeLoss .d).loadingLaw := by
  by_cases loading : s.mode = .loading
  · have quiet : s.quiet := law.2.2.1 loading
    rw [quiet.takeLoss]
    have settled (u : State) (calm : s.Calm u) (still : u.quiet) : u.swapIfDrained.loadingLaw := by
      have lawU : u.loadingLaw := calm.loadingLaw (fun _ _ => still) law
      obtain ⟨drain, -, same⟩ | ⟨-, same⟩ := u.swapIfDrained_cases
      · rw [same]
        exact State.loadingLaw_swap (State.commandLaw_congr calm.command commandLaw) drain lawU
      · rwa [same]
    obtain ⟨tags, channels, -, inbound⟩ := quiet
    unfold State.endAllInFlight
    dsimp only
    refine settled _ ?_ ?_
    · split <;> exact ⟨rfl, rfl, rfl, rfl, rfl, rfl, rfl, rfl, rfl, rfl⟩
    · split <;> exact ⟨tags, channels, rfl, inbound⟩
  · exact ((State.weighs_takeLoss s).loadingLaw commandLaw loading law).1

theorem Move.loadingLaw {wild : Prop} (tame : ¬wild) {s t : State} (move : Move wild s t) (portLaw : s.portLaw)
    (commandLaw : s.commandLaw) (channelLaw : s.channelLaw) (law : s.loadingLaw) : t.loadingLaw := by
  cases move with
  | aside h => exact h.loadingLaw portLaw law
  | stages | turns | rewrites | popsReply => exact law
  | records =>
    obtain ⟨reading, held, quiet, active⟩ := law
    exact ⟨fun l => ⟨(reading l).1, rfl⟩, fun h => ⟨(held h).1, (held h).2.1, rfl⟩, quiet, active⟩
  | begins operand issuer live =>
    have ended : s.mode ≠ .loading := live.resolve_right tame
    obtain ⟨reading, held, quiet, active⟩ := law
    exact ⟨fun l => absurd (reading l).1 ended, fun h => absurd (held h).1 ended, quiet, active⟩
  | invalid _ _ _ _ ended =>
    obtain ⟨reading, held, quiet, active⟩ := law
    exact ⟨fun l => absurd (reading l).1 ended, fun h => absurd (held h).1 ended, quiet, active⟩
  | drains => exact law
  | swaps =>
    obtain ⟨drain, -, same⟩ | ⟨-, same⟩ := s.swapIfDrained_cases
    · rw [same]; exact State.loadingLaw_swap commandLaw drain law
    · rwa [same]
  | forwards r kind p passed =>
    exact (State.calm_forward r kind p s).loadingLaw (fun loading => absurd loading (passed.not_loading law)) law
  | installs c e copyWrite change passed =>
    exact (State.calm_install c e copyWrite change s).loadingLaw
      (fun loading => absurd loading (passed.not_loading law)) law
  | takesTag c =>
    refine (State.calm_channelTakesTag c s).loadingLaw (fun loading quiet => ?_) law
    obtain same | ⟨f, -, -, formed, -⟩ := s.channelTakesTag_cases c
    · rwa [same]
    · obtain ⟨-, empty, -⟩ := (channelLaw c).1
      obtain ⟨-, -, -, vacant⟩ := empty (.inl (quiet.2.1 c))
      rw [vacant] at formed
      cases formed
  | recasts c ch recast live =>
    refine (State.calm_setChannel c ch s).loadingLaw (fun loading quiet => ?_) law
    obtain ⟨tags, channels, issue, inbound⟩ := quiet
    have state : ch.state = (s.channels[c]).state := by
      obtain mode | active | same := live
      · exact absurd loading (mode.resolve_right tame)
      · exact absurd (channels c) active
      · exact same
    refine ⟨tags, fun d => ?_, issue, inbound⟩
    rw [State.setChannel_channels, getElem_set_fin]
    split
    · rw [state]; exact channels c
    · exact channels d
  | stops c cause index address running =>
    exact ((State.weighs_enterDrain c cause index address s).loadingLaw commandLaw
      (law.ended_of_channel (Channel.not_idle_of_running running)) law).1
  | @grantsQueue t e rest head aside =>
    have ended := law.ended_of_queue (by rw [head]; exact List.cons_ne_nil e rest)
    have popped : State.loadingLaw { s with issueQueue := rest } :=
      State.Calm.loadingLaw (s := s) ⟨rfl, rfl, rfl, rfl, rfl, rfl, rfl, rfl, rfl, rfl⟩
        (fun loading => absurd loading ended) law
    have lawT := aside.loadingLaw portLaw popped
    have endedT : t.mode ≠ .loading := by rw [aside.frame]; exact ended
    exact ((State.weighs_settleIssue e t).loadingLaw (State.commandLaw_congr (s := s) aside.command commandLaw) endedT
      lawT).1
  | @grantsChannel t c f formed ready aside =>
    have active : (s.channels[c]).state ≠ .idle := by
      intro idle
      obtain ⟨-, empty, -⟩ := (channelLaw c).1
      obtain ⟨-, -, -, vacant⟩ := empty (.inl idle)
      rw [vacant] at formed
      cases formed
    have ended := law.ended_of_channel active
    have set := (State.calm_setChannel c { s.channels[c] with formed := none } s).loadingLaw
      (fun loading => absurd loading ended) law
    have lawT := aside.loadingLaw portLaw set
    have endedT : t.mode ≠ .loading := by rw [aside.frame]; exact ended
    exact ((State.weighs_settleIssue f.entry t).loadingLaw (State.commandLaw_congr (s := s) aside.command commandLaw)
      endedT lawT).1
  | frees t used => exact ((State.weighs_freeTag t s).loadingLaw commandLaw (law.ended_of_tag used) law).1
  | expires t =>
    by_cases waiting : (s.tags[t]).state = .waiting
    · exact ((State.weighs_expireTag t s).loadingLaw commandLaw (law.ended_of_tag (by rw [waiting]; decide)) law).1
    · have same : s.expireTag t = s := by
        unfold State.expireTag
        rw [if_neg (by simpa using waiting)]
      rwa [same]
  | answers t waiting =>
    have ended := law.ended_of_tag (by rw [waiting]; decide)
    exact (((State.weighs_freeTag t s).trans (.calm ((State.calm_setChannel _ _ _).trans
      (State.calm_haltIfEmpty _ _)))).loadingLaw commandLaw ended law).1
  | @lapses u t waiting _ aside =>
    have ended := law.ended_of_tag (by rw [waiting]; decide)
    have weighs := State.weighs_expireTag t s
    obtain ⟨lawE, endedE⟩ := weighs.loadingLaw commandLaw ended law
    have lawU := aside.loadingLaw (weighs.portLaw portLaw) lawE
    have endedU : u.mode ≠ .loading := by rw [aside.frame]; exact endedE
    exact ((State.Weighs.calm ((State.calm_setChannel _ _ _).trans (State.calm_haltIfEmpty _ _))).loadingLaw
      (State.commandLaw_congr aside.command (weighs.commandLaw commandLaw)) endedU lawU).1
  | flushes q =>
    by_cases loading : s.mode = .loading
    · have empty : s.issueQueue = [] := (law.2.2.1 loading).2.2.1
      have none (u : State) (l : List (Fin 48)) : l.foldl (State.flushTag [] q) u = u := by
        induction l with
        | nil => rfl
        | cons t rest ih => rw [List.foldl_cons, State.flushTag, if_neg (by rw [Machine.flushes]; simp), ih]
      rw [empty]
      simp only [List.filter_nil, List.foldl_nil, none]
      exact State.Calm.loadingLaw (s := s) ⟨rfl, rfl, rfl, rfl, rfl, rfl, rfl, rfl, rfl, rfl⟩
        (fun _ ⟨tags, channels, _, inbound⟩ => ⟨tags, channels, rfl, inbound⟩) law
    · refine (State.Weighs.loadingLaw (.trans (.calm ?_) (.trans
        (State.weighs_foldl (State.weighs_flushTag s.issueQueue q) _ _)
        (State.weighs_foldl State.weighs_flushUntagged _ _))) commandLaw loading law).1
      exact ⟨rfl, rfl, rfl, rfl, rfl, rfl, rfl, rfl, rfl, rfl⟩
  | loses => exact State.loadingLaw_takeLoss commandLaw law
  | restarts p =>
    obtain ⟨reading, held, quiet, active⟩ := law
    cases p with
    | u =>
      rw [State.downAndInit_u]
      refine ⟨reading, held, fun loading => ?_, active⟩
      obtain ⟨tags, channels, issue, -⟩ := quiet loading
      exact ⟨tags, channels, issue, rfl⟩
    | d =>
      rw [State.downAndInit_d]
      exact ⟨reading, held, quiet, active⟩

theorem Deed.loadingLaw {wild : Prop} (tame : ¬wild) {s t : State} (deed : Deed wild s t) (portLaw : s.portLaw)
    (commandLaw : s.commandLaw) (channelLaw : s.channelLaw) (law : s.loadingLaw) : t.loadingLaw := by
  cases deed with
  | move h => exact h.loadingLaw tame portLaw commandLaw channelLaw law
  | reply r =>
    obtain ⟨reading, held, quiet, active⟩ := law
    rw [State.placeReply_frame]
    exact ⟨reading, held, quiet, active⟩

/-- The reading loader and what a failed or a good read makes of the gate. -/
theorem Whole.loadingLaw {s t : State} (whole : Whole s t) (law : s.loadingLaw) : t.loadingLaw := by
  obtain ⟨reading, held, quiet, active⟩ := law
  have notHeld {words : List Word} (loader : s.loader = some words) : s.resetHeld = false := by
    cases r : s.resetHeld with
    | false => rfl
    | true => rw [(held r).2.1] at loader; cases loader
  cases whole with
  | powersOn => exact State.reset_loadingLaw
  | startsUp u =>
    have empty : State.reset.quiet := State.reset_loadingLaw.2.2.1 rfl
    rw [State.startUp_frame]
    exact ⟨fun _ => ⟨rfl, rfl⟩, Bool.noConfusion, fun _ => ⟨empty.1, empty.2.1, rfl, rfl⟩,
      State.reset_loadingLaw.2.2.2⟩
  | gathers words w loader =>
    have before := reading (by rw [loader]; rfl)
    exact ⟨fun _ => before, fun r => absurd ((notHeld loader).symm.trans r) Bool.noConfusion, quiet, active⟩
  | goodImage words w loader =>
    exact ⟨fun l => absurd l Bool.noConfusion, fun r => absurd ((notHeld loader).symm.trans r) Bool.noConfusion, quiet,
      active⟩
  | badImage words cause loader =>
    have before := reading (by rw [loader]; rfl)
    have inactive := active (by rw [before.1]; decide)
    rw [State.failLoad_frame]
    exact State.loadingLaw_of_still rfl (notHeld loader) GateMode.noConfusion (fun _ => inactive)
  | badBank i cause other _ loading busy =>
    have inactive := active (by rw [loading]; decide)
    rw [State.validationFails_of_loading i cause other loading, State.failLoad_frame]
    exact ⟨fun l => absurd (busy.symm.trans (reading l).2) Bool.noConfusion,
      fun r => absurd (busy.symm.trans (held r).2.2) Bool.noConfusion, GateMode.noConfusion, fun _ => inactive⟩
  | comesUp p credit _ init =>
    rw [State.grantAfterLoading_frame]
    cases p with
    | u => exact ⟨reading, held, quiet, active⟩
    | d => exact ⟨reading, held, quiet, active⟩

end Sys2Proof.Machine

/-! The laws of the channels (R94, Table 6-4), and with them the laws of loading and of the managers. -/

namespace Sys2Proof.Machine

/-! ### What forming and forwarding a request give -/

/-- A channel record with a request in its slot and the request's tag among the tags held. -/
def Channel.forming (ch : Channel) (e : IssueEntry) (copyWrite : Bool) (tag : Option (Fin 48)) : Channel :=
  { ch with
    formed := some { entry := { e with tag := tag }, copyWrite := copyWrite }
    tagsHeld := ch.tagsHeld ++ tag.toList }

/-- A request is formed with the head of the free list, or without a tag: a posted one, or one that waits. -/
theorem State.install_cases (c : Fin 2) (e : IssueEntry) (copyWrite : Bool)
    (change : Option (Fin 48) → Channel → Channel) (s : State) :
    ((e.kind = .pw ∨ s.freeTags = []) ∧ s.install c e copyWrite change =
        (s.rise e.index).setChannel c ((change none s.channels[c]).forming e copyWrite none)) ∨
      ∃ t rest, e.kind ≠ .pw ∧ s.freeTags = t :: rest ∧ s.install c e copyWrite change =
        { (s.rise e.index).setChannel c ((change (some t) s.channels[c]).forming e copyWrite (some t)) with
          tags := s.tags.set t (channelTag c e), freeTags := rest } := by
  by_cases posted : e.kind = .pw
  · exact .inl ⟨.inl posted, by simp [State.install, State.takeFormedTag, posted, Channel.forming]⟩
  · have tagged : ∀ u : State, u.takeFormedTag c e = u.takeTag (channelTag c e) := fun u => by
      simp [State.takeFormedTag, posted]
    cases free : s.freeTags with
    | nil =>
      refine .inl ⟨.inr rfl, ?_⟩
      simp only [State.install, tagged]
      rw [State.takeTag_nil _ (s.rise e.index) free]
      rfl
    | cons t rest =>
      refine .inr ⟨t, rest, posted, rfl, ?_⟩
      simp only [State.install, tagged]
      rw [State.takeTag_cons _ (s.rise e.index) t rest free]
      rfl

/-- A request is forwarded with the head of the free list, or untagged. -/
theorem State.forward_cases (r : Request) (kind : RequestKind) (p : Passage) (s : State) :
    ((p.kind = .pw ∨ s.freeTags = []) ∧ s.forward r kind p =
        (State.rise p.index { s with issueQueue := s.issueQueue ++ [forwardEntry r p none] }).updateRequester r.requester
          (fun x => x.forwarded kind)) ∨
      ∃ t rest, p.kind ≠ .pw ∧ s.freeTags = t :: rest ∧ s.forward r kind p =
        { (State.rise p.index { s with issueQueue := s.issueQueue ++ [forwardEntry r p (some t)] }).updateRequester
            r.requester (fun x => x.forwarded kind) with
          tags := s.tags.set t (forwardTag r kind p), freeTags := rest } := by
  by_cases posted : p.kind = .pw
  · refine .inl ⟨.inl posted, ?_⟩
    simp only [State.forward, State.takeForwardTag, posted, beq_self_eq_true, if_true]
  · have tagged : s.takeForwardTag r kind p = s.takeTag (forwardTag r kind p) := by
      simp [State.takeForwardTag, posted]
    cases free : s.freeTags with
    | nil =>
      refine .inl ⟨.inr rfl, ?_⟩
      simp only [State.forward, tagged]
      rw [State.takeTag_nil _ s free, ← free]
    | cons t rest =>
      refine .inr ⟨t, rest, posted, rfl, ?_⟩
      simp only [State.forward, tagged]
      rw [State.takeTag_cons _ s t rest free]
      rfl

/-! ### The record of one channel -/

/-- The laws of a channel, but for a DRAIN that holds no tag: what a weighed halt makes lawful. -/
structure Channel.nearLaw (ch : Channel) : Prop where
  four : ch.tagsHeld.length ≤ 4
  empty : ch.state = .idle ∨ ch.state = .halted →
    ch.tagsHeld = [] ∧ ch.readList = [] ∧ ch.writeList = [] ∧ ch.formed = none
  lacks : ∀ f ∈ ch.formed, (f.entry.tag = none → ch.running = true) ∧ (f.lacksTag = true → ch.tagsHeld.length < 4)
  descriptor : ch.descriptorLaw

/-- The two laws of a channel. -/
def Channel.lawful (ch : Channel) : Prop := ch.heldLaw ∧ ch.descriptorLaw

theorem Channel.lawful_iff (ch : Channel) : ch.lawful ↔ ch.nearLaw ∧ (ch.state = .drain → ch.tagsHeld ≠ []) :=
  ⟨fun ⟨⟨four, empty, drain, lacks⟩, descriptor⟩ => ⟨⟨four, empty, lacks, descriptor⟩, drain⟩,
    fun ⟨⟨four, empty, lacks, descriptor⟩, drain⟩ => ⟨⟨four, empty, drain, lacks⟩, descriptor⟩⟩

theorem Channel.lawful_halt {ch : Channel} (law : ch.descriptorLaw) : ch.halt.lawful := by
  obtain ⟨-, -, good, first, current⟩ := law
  refine ⟨by simp [Channel.halt, Channel.heldLaw], ?_⟩
  simp only [Channel.descriptorLaw, Channel.halt, reduceCtorEq, false_implies, true_and]
  exact ⟨fun d mem => ⟨(good d mem).1, trivial⟩, first, current⟩

theorem Channel.nearLaw_drained {ch : Channel} (law : ch.lawful) (cause : HaltCause) (index : Option (Fin 64))
    (address : Option Address) : (ch.drained cause index address).nearLaw := by
  obtain ⟨⟨four, -, -, -⟩, ⟨-, -, good, first, current⟩⟩ := law
  refine ⟨four, ?_, ?_, ?_⟩
  · simp [Channel.drained]
  · intro f mem
    simp only [Channel.drained, Option.mem_def, Option.filter_eq_some_iff] at mem
    obtain ⟨-, tagged⟩ := mem
    refine ⟨fun none => ?_, fun lacks => ?_⟩
    · rw [none] at tagged; cases tagged
    · simp only [FormedRequest.lacksTag, Bool.and_eq_true, Option.isNone_iff_eq_none] at lacks
      rw [lacks.2] at tagged
      cases tagged
  · simp only [Channel.descriptorLaw, Channel.drained, reduceCtorEq, false_implies, true_and]
    exact ⟨fun d mem => ⟨(good d mem).1, trivial⟩, first, current⟩

theorem Channel.nearLaw_endTag {ch : Channel} (law : ch.lawful) (t : Fin 48) : (ch.endTag t).nearLaw := by
  obtain ⟨⟨four, empty, -, lacks⟩, descriptor⟩ := law
  have fewer : (ch.tagsHeld.filter (fun u => u != t)).length ≤ ch.tagsHeld.length := List.length_filter_le _ _
  refine ⟨Nat.le_trans fewer four, fun still => ?_, fun f mem => ?_, descriptor⟩
  · obtain ⟨tags, reads, writes, formed⟩ := empty still
    exact ⟨by simp [Channel.endTag, tags], by simp [Channel.endTag, reads], writes, formed⟩
  · obtain ⟨running, room⟩ := lacks f mem
    exact ⟨running, fun h => Nat.lt_of_le_of_lt fewer (room h)⟩

theorem Channel.lawful_taken {ch : Channel} (law : ch.lawful) {f : FormedRequest} (formed : ch.formed = some f)
    (lacks : f.lacksTag = true) (t : Fin 48) : (ch.taken f t).lawful := by
  obtain ⟨⟨-, empty, -, held⟩, descriptor⟩ := law
  have room : ch.tagsHeld.length < 4 := (held f formed).2 lacks
  refine ⟨⟨?_, fun still => ?_, ?_, ?_⟩, descriptor⟩
  · rw [Channel.taken, List.length_append]
    exact room
  · obtain ⟨-, -, -, vacant⟩ := empty still
    rw [vacant] at formed
    cases formed
  · simp [Channel.taken]
  · intro g mem
    simp only [Channel.taken, Option.mem_def, Option.some.injEq] at mem
    subst mem
    simp [FormedRequest.lacksTag]

theorem Channel.lawful_forming {ch new : Channel} (law : ch.lawful) (running : ch.running = true)
    (suits : ch.Formed new) (e : IssueEntry) (copyWrite : Bool) (tag : Option (Fin 48))
    (room : tag.isSome = true ∨ e.kind ≠ .pw → ch.tagsHeld.length < 4) :
    (new.forming e copyWrite tag).lawful := by
  obtain ⟨⟨four, -, -, -⟩, ⟨fetch, run, good, first, current⟩⟩ := law
  have still : ¬(new.state = .idle ∨ new.state = .halted) ∧ new.state ≠ .drain := by
    rw [suits.state]
    rw [Channel.running_iff] at running
    obtain state | state := running <;> rw [state] <;> decide
  refine ⟨⟨?_, fun idle => absurd idle still.1, fun drain => absurd drain still.2, ?_⟩, ?_⟩
  · simp only [Channel.forming, suits.tagsHeld, List.length_append]
    cases tag with
    | none => simpa using four
    | some t =>
      have := room (.inl rfl)
      simp
      omega
  · intro f mem
    simp only [Channel.forming, Option.mem_def, Option.some.injEq] at mem
    subst mem
    refine ⟨fun _ => ?_, fun lacks => ?_⟩
    · rw [Channel.running_iff] at *
      exact suits.state ▸ running
    · simp only [FormedRequest.lacksTag, Bool.and_eq_true, bne_iff_ne, Option.isNone_iff_eq_none] at lacks
      obtain ⟨tagged, rfl⟩ := lacks
      simpa [Channel.forming, suits.tagsHeld] using room (.inr tagged)
  · simp only [Channel.descriptorLaw, Channel.forming, suits.state, suits.descriptor, suits.first, suits.current]
    exact ⟨fetch, run, fun d mem => ⟨(good d mem).1, fun h => Nat.le_trans suits.remaining ((good d mem).2 h)⟩, first,
      current⟩

/-- An issued request leaves its slot; a channel in DRAIN still holds the tag. -/
theorem Channel.lawful_vacated {ch : Channel} (law : ch.lawful) : Channel.lawful { ch with formed := none } := by
  obtain ⟨⟨four, empty, drain, -⟩, descriptor⟩ := law
  refine ⟨⟨four, fun still => ?_, drain, by simp⟩, descriptor⟩
  obtain ⟨tags, reads, writes, -⟩ := empty still
  exact ⟨tags, reads, writes, rfl⟩

/-! ### The two channels -/

theorem State.channelLaw_congr {s t : State} (same : t.channels = s.channels) (law : s.channelLaw) : t.channelLaw := by
  unfold State.channelLaw at *
  rwa [same]

theorem State.channelLaw_set {s t : State} (law : s.channelLaw) (c : Fin 2) {ch : Channel} (lawful : ch.lawful)
    (channels : t.channels = s.channels.set c ch) : t.channelLaw := by
  intro d
  rw [channels, getElem_set_fin]
  split
  · exact lawful
  · exact law d

/-- A weighed halt makes a nearly lawful channel lawful. -/
theorem State.channelLaw_haltIfEmpty {s : State} (c : Fin 2) (near : (s.channels[c]).nearLaw)
    (others : ∀ d, d ≠ c → (s.channels[d]).lawful) : (s.haltIfEmpty c).channelLaw := by
  unfold State.haltIfEmpty
  split
  · intro d
    rw [State.haltNow_frame]
    simp only [getElem_set_fin]
    split
    · exact Channel.lawful_halt near.descriptor
    next other => exact others d (Ne.symm other)
  next held =>
    intro d
    by_cases same : d = c
    · subst same
      refine (Channel.lawful_iff _).mpr ⟨near, fun drain empty => held ?_⟩
      rw [drain, empty]
      rfl
    · exact others d same

/-- A channel record is replaced by a nearly lawful one and the halt is weighed. -/
theorem State.channelLaw_set_haltIfEmpty {s u : State} (law : s.channelLaw) (same : u.channels = s.channels) (c : Fin 2)
    {ch : Channel} (near : ch.nearLaw) : ((u.setChannel c ch).haltIfEmpty c).channelLaw := by
  refine State.channelLaw_haltIfEmpty c ?_ fun d other => ?_
  · rw [State.setChannel_channel]; exact near
  · rw [State.setChannel_channels, getElem_set_fin, if_neg (Ne.symm other), same]
    exact law d

theorem State.settleIssue_channels (e : IssueEntry) (s : State) : (s.settleIssue e).channels = s.channels := by
  unfold State.settleIssue
  split
  · rw [State.issueTag_frame]
  · rw [State.fall_frame]

theorem State.flush_channels (queue removed : List IssueEntry) (q : Fin 16) (s : State) :
    (removed.foldl State.flushUntagged ((List.finRange 48).foldl (State.flushTag queue q) s)).channels =
      s.channels := by
  refine kept_foldl (P := fun u => u.channels = s.channels) (fun u e law => ?_) _
    (kept_foldl (P := fun u => u.channels = s.channels) (fun u t law => ?_) _ rfl)
  · unfold State.flushUntagged
    split
    · rw [State.fall_frame]; exact law
    · exact law
  · unfold State.flushTag
    split
    · rw [State.freeTag_frame]; exact law
    · exact law

theorem State.channelLaw_loseChannel {s : State} (law : s.channelLaw) (c : Fin 2) : (s.loseChannel c).channelLaw := by
  unfold State.loseChannel
  dsimp only
  repeat' split
  · exact State.channelLaw_set law c (Channel.lawful_halt (ch := { s.channels[c] with
      haltCause := .linkDown, haltIndex := none, haltAddress := none }) (law c).2) (by rw [State.haltNow_frame])
  · exact State.channelLaw_set law c (Channel.lawful_halt (law c).2) (by rw [State.haltNow_frame])
  · exact law

theorem State.channelLaw_takeLoss {s : State} (law : s.channelLaw) : (s.takeLoss .d).channelLaw := by
  have before : (s.closeTags.emptyIssueQueue).channelLaw :=
    State.channelLaw_congr (by rw [State.emptyIssueQueue_frame, State.closeTags_frame]) law
  have lost := State.channelLaw_loseChannel (State.channelLaw_loseChannel before 0) 1
  unfold State.takeLoss
  dsimp only
  exact State.channelLaw_congr (by rw [State.endAllInFlight_frame]) lost

theorem State.Aside.channels {s t : State} (h : s.Aside t) : t.channels = s.channels := by rw [h.frame]

theorem Move.channelLaw {wild : Prop} {s t : State} (move : Move wild s t) (law : s.channelLaw) : t.channelLaw := by
  cases move with
  | aside h => exact State.channelLaw_congr h.channels law
  | stages | records | begins | invalid | drains | rewrites | turns | popsReply => exact law
  | swaps => exact State.channelLaw_congr (by rw [State.swapIfDrained_frame]) law
  | forwards r kind p =>
    obtain ⟨-, same⟩ | ⟨t, rest, -, -, same⟩ := s.forward_cases r kind p <;> rw [same] <;> exact law
  | installs c e copyWrite change _ running _ _ room suits =>
    obtain ⟨-, same⟩ | ⟨t, rest, tagged, -, same⟩ := s.install_cases c e copyWrite change <;> rw [same]
    · exact State.channelLaw_set law c (Channel.lawful_forming (law c) running (suits none) e copyWrite none
        (fun h => room (h.resolve_left Bool.false_ne_true))) rfl
    · exact State.channelLaw_set law c (Channel.lawful_forming (law c) running (suits (some t)) e copyWrite (some t)
        (fun _ => room tagged)) rfl
  | takesTag c =>
    obtain same | ⟨f, t, rest, formed, lacks, -, same⟩ := s.channelTakesTag_cases c <;> rw [same]
    · exact law
    · exact State.channelLaw_set law c (Channel.lawful_taken (law c) formed lacks t) rfl
  | recasts c ch recast => exact State.channelLaw_set law c (recast.laws (law c).1 (law c).2) rfl
  | stops c cause index address running =>
    unfold State.enterDrain
    dsimp only
    rw [if_pos running]
    exact State.channelLaw_set_haltIfEmpty law (by rw [State.dropFormed_frame]) c
      (Channel.nearLaw_drained (law c) cause index address)
  | grantsQueue e rest head aside =>
    refine State.channelLaw_congr ((State.settleIssue_channels e _).trans aside.channels) ?_
    exact law
  | grantsChannel c f formed ready aside =>
    exact State.channelLaw_set law c (Channel.lawful_vacated (law c))
      ((State.settleIssue_channels f.entry _).trans aside.channels)
  | frees t => exact State.channelLaw_congr (by rw [State.freeTag_frame]) law
  | expires t => exact State.channelLaw_congr (by rw [State.expireTag_frame]) law
  | answers t =>
    exact State.channelLaw_set_haltIfEmpty law (by rw [State.freeTag_frame]) _ (Channel.nearLaw_endTag (law _) t)
  | lapses t _ _ aside =>
    exact State.channelLaw_set_haltIfEmpty law (aside.channels.trans (by rw [State.expireTag_frame])) _
      (Channel.nearLaw_endTag (law _) t)
  | flushes q =>
    refine State.channelLaw_congr (State.flush_channels _ _ _ _) ?_
    exact law
  | loses => exact State.channelLaw_takeLoss law
  | restarts p => cases p <;> exact law

theorem Deed.channelLaw {wild : Prop} {s t : State} (deed : Deed wild s t) (law : s.channelLaw) : t.channelLaw := by
  cases deed with
  | move h => exact h.channelLaw law
  | reply r => exact State.channelLaw_congr (by rw [State.placeReply_frame]) law

theorem Whole.channelLaw {s t : State} (whole : Whole s t) (law : s.channelLaw) : t.channelLaw := by
  cases whole with
  | powersOn => exact State.reset_channelLaw
  | startsUp u => rw [State.startUp_frame]; exact State.reset_channelLaw
  | gathers | goodImage => exact law
  | badImage words cause => rw [State.failLoad_frame]; exact law
  | badBank i cause other _ loading =>
    rw [State.validationFails_of_loading i cause other loading, State.failLoad_frame]
    exact law
  | comesUp p => rw [State.grantAfterLoading_frame]; cases p <;> exact law

theorem State.channelLaw_tick {s : State} (law : s.channelLaw) : s.tick.channelLaw := by
  unfold State.tick
  split <;> exact law

/-- Settles O9: every change of a channel's record is a lawful one, a DRAIN without tags halting in its own event. -/
theorem channelLawKept : Obligations.ChannelLawKept := fun _ _ law next =>
  law_kept_of_step (fun _ => id) (fun _ _ => Deed.channelLaw) (fun _ event => event.channelLaw law)
    State.channelLaw_tick law next

/-! ### Managers (R34) -/

theorem State.managed_of_mem {s : State} (i : Nat) (bound : i < 16) (opened : (s.requesters[i]).state = .opened)
    (right : (s.requesters[i]).right = true) : s.managed := ⟨⟨i, bound⟩, opened, right⟩

theorem State.managerLaw_congr {s t : State} (mode : t.mode = s.mode) (command : t.command = s.command)
    (requesters : t.requesters = s.requesters) (law : s.managerLaw) : t.managerLaw := by
  unfold State.managerLaw State.managed at *
  rwa [mode, command, requesters]

/-- What a change keeps of the requesters, as far as the manager law sees them. -/
structure State.Staffed (s t : State) : Prop where
  state : ∀ q : Fin 16, (t.requesters[q]).state = (s.requesters[q]).state
  right : ∀ q : Fin 16, (t.requesters[q]).right = (s.requesters[q]).right

theorem State.Staffed.of_eq {s t : State} (h : t.requesters = s.requesters) : s.Staffed t :=
  ⟨fun q => by rw [h], fun q => by rw [h]⟩

theorem State.Staffed.trans {s t u : State} (h : s.Staffed t) (k : t.Staffed u) : s.Staffed u :=
  ⟨fun q => (k.state q).trans (h.state q), fun q => (k.right q).trans (h.right q)⟩

theorem State.Staffed.managed {s t : State} (h : s.Staffed t) (managed : s.managed) : t.managed := by
  obtain ⟨q, opened, right⟩ := managed
  exact ⟨q, (h.state q).trans opened, (h.right q).trans right⟩

/-- A swap is that of a BUSY command unit, which had a manager before. -/
theorem State.Weighs.managerOver {s t : State} (h : s.Weighs t) (commandLaw : s.commandLaw) :
    (t.mode ≠ .loading ∨ t.command.busy = true → s.mode ≠ .loading ∨ s.command.busy = true) ∧
      (t.mode = .loading → s.mode = .loading) := by
  induction h with
  | calm h => exact ⟨fun ended => by rwa [h.mode, h.command] at ended, fun loading => h.mode ▸ loading⟩
  | swap s drain _ =>
    have busy : s.command.busy = true := commandLaw.1.mp (by rw [drain]; rfl)
    exact ⟨fun _ => .inr busy, fun loading => by rw [State.swap_frame] at loading; cases loading⟩
  | trans h _ first second =>
    obtain ⟨ended, loading⟩ := first commandLaw
    obtain ⟨ended', loading'⟩ := second (h.commandLaw commandLaw)
    exact ⟨fun k => ended (ended' k), fun k => loading (loading' k)⟩

theorem State.Weighs.managerLaw {s t : State} (h : s.Weighs t) (commandLaw : s.commandLaw) (staffed : s.Staffed t)
    (law : s.managerLaw) : t.managerLaw := by
  obtain ⟨ended, loading⟩ := h.managerOver commandLaw
  exact ⟨fun k => staffed.managed (law.1 (ended k)), fun k q => (staffed.state q).trans (law.2 (loading k) q)⟩

theorem State.staffed_endCounts (r : TagRecord) (s : State) : s.Staffed (s.endCounts r) := by
  have lowered (q : Fin 16) : s.Staffed (s.lowerOutstanding q) := by
    constructor <;> intro p <;> simp only [State.lowerOutstanding, State.setRequester_requesters, getElem_set_fin] <;>
      split <;> simp_all
  unfold State.endCounts
  dsimp only
  split <;> split
  · exact (lowered _).trans (.of_eq (by rw [State.fall_frame]))
  · exact .of_eq (by rw [State.fall_frame])
  · exact lowered _
  · exact .of_eq rfl

theorem State.staffed_freeTag (t : Fin 48) (s : State) : s.Staffed (s.freeTag t) := by
  unfold State.freeTag
  split
  · exact .of_eq rfl
  · exact (State.Staffed.of_eq (s := s) (t := s.putFree t) rfl).trans (State.staffed_endCounts _ _)

theorem State.staffed_expireTag (t : Fin 48) (s : State) : s.Staffed (s.expireTag t) := by
  unfold State.expireTag
  split
  · exact (State.Staffed.of_eq (s := s) (t := s.setTag t _) rfl).trans (State.staffed_endCounts _ _)
  · exact .of_eq rfl

theorem State.staffed_flush (queue removed : List IssueEntry) (q : Fin 16) (s : State) :
    s.Staffed (removed.foldl State.flushUntagged ((List.finRange 48).foldl (State.flushTag queue q) s)) := by
  refine kept_foldl (P := s.Staffed) (fun u e law => ?_) _ (kept_foldl (P := s.Staffed) (fun u t law => ?_) _ (.of_eq rfl))
  · unfold State.flushUntagged
    split
    · exact law.trans (.of_eq (by rw [State.fall_frame]))
    · exact law
  · unfold State.flushTag
    split
    · exact law.trans (State.staffed_freeTag t u)
    · exact law

theorem State.settleIssue_requesters (e : IssueEntry) (s : State) : (s.settleIssue e).requesters = s.requesters := by
  unfold State.settleIssue
  split
  · rw [State.issueTag_frame]
  · rw [State.fall_frame]

theorem State.takeLoss_requesters (s : State) : (s.takeLoss .d).requesters = s.requesters := by
  have kept (c : Fin 2) (u : State) : (u.loseChannel c).requesters = u.requesters := by
    unfold State.loseChannel
    dsimp only
    repeat' split
    · rw [State.haltNow_frame]
    · rw [State.haltNow_frame]
    · rfl
  unfold State.takeLoss
  dsimp only
  rw [State.endAllInFlight_frame]
  dsimp only
  rw [kept, kept, State.emptyIssueQueue_frame, State.closeTags_frame]

theorem State.staffed_forward (r : Request) (kind : RequestKind) (p : Passage) (s : State) :
    s.Staffed (s.forward r kind p) := by
  have counted : (s.forward r kind p).requesters =
      s.requesters.set r.requester ((s.requesters[r.requester]).forwarded kind) := by
    obtain ⟨-, same⟩ | ⟨t, rest, -, -, same⟩ := s.forward_cases r kind p <;> rw [same] <;> rfl
  constructor <;> intro q <;> rw [counted, getElem_set_fin] <;> split <;> simp_all [RequesterRecord.forwarded]

theorem State.Aside.managerLaw {s t : State} (h : s.Aside t) (law : s.managerLaw) : t.managerLaw :=
  State.managerLaw_congr (by rw [h.frame]) h.command (by rw [h.frame]) law

theorem Move.managerLaw {wild : Prop} (tame : ¬wild) {s t : State} (move : Move wild s t) (commandLaw : s.commandLaw)
    (law : s.managerLaw) : t.managerLaw := by
  cases move with
  | aside h => exact h.managerLaw law
  | stages | turns | recasts | popsReply => exact law
  | records =>
    exact ⟨fun ended => law.1 (ended.imp id (fun busy => absurd busy Bool.false_ne_true)), law.2⟩
  | begins operand issuer live => exact ⟨fun _ => law.1 (.inl (live.resolve_right tame)), law.2⟩
  | invalid _ _ _ _ ended => exact ⟨fun _ => law.1 (.inl ended), law.2⟩
  | drains => exact law
  | rewrites v kept states =>
    refine ⟨fun ended => kept.managed (law.1 ended), fun loading q => ?_⟩
    obtain live | states := states
    · exact absurd loading (live.resolve_right tame)
    · obtain same | opened := states q
      · exact same.trans (law.2 loading q)
      · exact opened
  | swaps =>
    exact (State.weighs_swapIfDrained s).managerLaw commandLaw (.of_eq (by rw [State.swapIfDrained_frame])) law
  | forwards r kind p =>
    exact (State.Weighs.calm (State.calm_forward r kind p s)).managerLaw commandLaw (State.staffed_forward r kind p s)
      law
  | installs c e copyWrite change =>
    have calm := State.calm_install c e copyWrite change s
    exact State.managerLaw_congr calm.mode calm.command (by rw [State.install_frame]) law
  | takesTag c =>
    obtain same | ⟨f, t, rest, -, -, -, same⟩ := s.channelTakesTag_cases c <;> rw [same] <;> exact law
  | stops c cause index address =>
    exact (State.weighs_enterDrain c cause index address s).managerLaw commandLaw
      (.of_eq (by rw [State.enterDrain_frame])) law
  | grantsQueue e rest head aside =>
    refine (State.weighs_settleIssue e _).managerLaw (State.commandLaw_congr (s := s) aside.command commandLaw)
      (.of_eq (State.settleIssue_requesters e _)) (aside.managerLaw ?_)
    exact law
  | grantsChannel c f formed ready aside =>
    refine (State.weighs_settleIssue f.entry _).managerLaw (State.commandLaw_congr (s := s) aside.command commandLaw)
      (.of_eq (State.settleIssue_requesters f.entry _)) (aside.managerLaw ?_)
    exact law
  | frees t => exact (State.weighs_freeTag t s).managerLaw commandLaw (State.staffed_freeTag t s) law
  | expires t => exact (State.weighs_expireTag t s).managerLaw commandLaw (State.staffed_expireTag t s) law
  | answers t =>
    have freed := (State.weighs_freeTag t s).managerLaw commandLaw (State.staffed_freeTag t s) law
    rw [State.haltIfEmpty_frame]
    exact freed
  | @lapses u t _ _ aside =>
    have expired := (State.weighs_expireTag t s).managerLaw commandLaw (State.staffed_expireTag t s) law
    rw [State.haltIfEmpty_frame]
    exact aside.managerLaw expired
  | flushes q =>
    refine (State.Weighs.trans (.calm ?_) (.trans (State.weighs_foldl (State.weighs_flushTag s.issueQueue q) _ _)
      (State.weighs_foldl State.weighs_flushUntagged _ _))).managerLaw commandLaw
      ((State.Staffed.of_eq ?_).trans (State.staffed_flush s.issueQueue _ q _)) law
    · exact ⟨rfl, rfl, rfl, rfl, rfl, rfl, rfl, rfl, rfl, rfl⟩
    · rfl
  | loses =>
    exact (State.weighs_takeLoss s).managerLaw commandLaw (.of_eq (State.takeLoss_requesters s)) law
  | restarts p => cases p <;> exact law

theorem Deed.managerLaw {wild : Prop} (tame : ¬wild) {s t : State} (deed : Deed wild s t) (commandLaw : s.commandLaw)
    (law : s.managerLaw) : t.managerLaw := by
  cases deed with
  | move h => exact h.managerLaw tame commandLaw law
  | reply r => rw [State.placeReply_frame]; exact law

/-- An image whose checks all pass names a manager (R165). -/
theorem imageHasManager_of_good {words : List Word} (good : judgeImage words = .good) : imageHasManager words = true := by
  refine Classical.byContradiction fun none => ?_
  unfold judgeImage at good
  repeat' split at good
  all_goals simp_all

theorem safeRequesters_managed : ∃ q : Fin 16, (safeRequesters[q]).state = .opened ∧ (safeRequesters[q]).right = true :=
  ⟨0, rfl, rfl⟩

theorem Whole.managerLaw {s t : State} (whole : Whole s t) (loadingLaw : s.loadingLaw) (law : s.managerLaw) :
    t.managerLaw := by
  cases whole with
  | powersOn => exact State.reset_managerLaw
  | startsUp u => rw [State.startUp_frame]; exact State.reset_managerLaw
  | gathers => exact law
  | goodImage words w loader good =>
    have opened := law.2 (loadingLaw.1 (by rw [loader]; rfl)).1
    have each (q : Fin 16) : ((s.loadImage (words ++ [w])).requesters[q]) =
        imageRequester (words ++ [w]) s.requesters[q] q.val := by
      simp only [State.loadImage, mapTableIndexed_getElem]
    refine ⟨fun _ => ?_, fun _ q => (congrArg RequesterRecord.state (each q)).trans (opened q)⟩
    have manager := imageHasManager_of_good good
    simp only [imageHasManager, List.any_eq_true, List.mem_range] at manager
    obtain ⟨q, bound, right⟩ := manager
    exact ⟨⟨q, bound⟩, (congrArg RequesterRecord.state (each ⟨q, bound⟩)).trans (opened ⟨q, bound⟩),
      (congrArg RequesterRecord.right (each ⟨q, bound⟩)).trans right⟩
  | badImage words cause =>
    rw [State.failLoad_frame]
    exact ⟨fun _ => safeRequesters_managed, GateMode.noConfusion⟩
  | badBank i cause other _ loading =>
    rw [State.validationFails_of_loading i cause other loading, State.failLoad_frame]
    exact ⟨fun _ => safeRequesters_managed, GateMode.noConfusion⟩
  | comesUp p => rw [State.grantAfterLoading_frame]; cases p <;> exact law

theorem State.loadingLaw_tick {s : State} (law : s.loadingLaw) : s.tick.loadingLaw := by
  obtain ⟨reading, held, quiet, active⟩ := law
  unfold State.tick
  split
  · exact ⟨reading, held, quiet, active⟩
  · refine ⟨reading, held, fun loading => ?_, active⟩
    obtain ⟨tags, channels, issue, inbound⟩ := quiet loading
    refine ⟨fun t => ?_, channels, issue, inbound⟩
    have ticked : (TagRecord.tick (s.timeBase + 1#32) s.tags[t]).state = (s.tags[t]).state := by
      unfold TagRecord.tick
      split <;> rfl
    exact (congrArg TagRecord.state (mapTable_getElem _ _ _)).trans (ticked.trans (tags t))

theorem State.managerLaw_tick {s : State} (law : s.managerLaw) : s.tick.managerLaw := by
  unfold State.tick
  split <;> exact law

/-- The laws that hold together while the loading law is kept. -/
structure State.loadingLaws (s : State) : Prop where
  port : s.portLaw
  command : s.commandLaw
  channel : s.channelLaw
  loading : s.loadingLaw

theorem State.loadingLaws_kept {s t : State} (laws : s.loadingLaws) (next : step s = .next t) : t.loadingLaws := by
  have tame := State.not_wild_of_portLaw laws.port
  exact law_kept_of_step (P := State.loadingLaws)
    (fun _ ⟨port, command, channel, loading⟩ => ⟨port, command, channel, loading⟩)
    (fun _ _ deed ⟨port, command, channel, loading⟩ => ⟨deed.portLaw tame port, deed.commandLaw command,
      deed.channelLaw channel, deed.loadingLaw tame port command channel loading⟩)
    (fun _ event => ⟨event.portLaw laws.port, event.commandLaw laws.command, event.channelLaw laws.channel,
      event.loadingLaw laws.loading⟩)
    (fun ⟨port, command, channel, loading⟩ => ⟨State.portLaw_tick port, State.commandLaw_tick command,
      State.channelLaw_tick channel, State.loadingLaw_tick loading⟩) laws next

/-- Settles O13: what acts while loading needs a tag, a channel, an entry or a packet, and there is none. -/
theorem loadingAndManagerLawsKept : Obligations.LoadingAndManagerLawsKept := by
  intro s t port command channel loading next
  have tame := State.not_wild_of_portLaw port
  refine ⟨(State.loadingLaws_kept ⟨port, command, channel, loading⟩ next).loading, fun manager => ?_⟩
  have both : t.commandLaw ∧ t.managerLaw :=
    law_kept_of_step (P := fun u => u.commandLaw ∧ u.managerLaw) (fun _ => id)
      (fun _ _ deed laws => ⟨deed.commandLaw laws.1, deed.managerLaw tame laws.1 laws.2⟩)
      (fun _ event => ⟨event.commandLaw command, event.managerLaw loading manager⟩)
      (fun laws => ⟨State.commandLaw_tick laws.1, State.managerLaw_tick laws.2⟩) ⟨command, manager⟩ next
  exact both.2

end Sys2Proof.Machine

/-! The law of the tag pool (R51): each tag is on the free tag list once when it is FREE and not at all otherwise. -/

namespace Sys2Proof.Machine

/-! ### What the tag operations leave in the pool -/

theorem set_getElem_fin {α : Type} {n : Nat} (v : Vector α n) (i : Fin n) : v.set i v[i] = v :=
  Vector.set_getElem_self _

theorem State.freeTag_pool {s : State} {t : Fin 48} (used : (s.tags[t]).state ≠ .free) :
    (s.freeTag t).tags = s.tags.set t (s.tags[t]).freed ∧ (s.freeTag t).freeTags = s.freeTags ++ [t] := by
  unfold State.freeTag
  rw [if_neg (by simpa using used), State.endCounts_frame]
  exact ⟨rfl, rfl⟩

theorem State.expireTag_of_not_waiting {s : State} {t : Fin 48} (other : (s.tags[t]).state ≠ .waiting) :
    s.expireTag t = s := by
  unfold State.expireTag
  rw [if_neg (by simpa using other)]

theorem State.expireTag_pool {s : State} {t : Fin 48} (waiting : (s.tags[t]).state = .waiting) :
    (s.expireTag t).tags =
        s.tags.set t ((s.tags[t]).expire (s.timeBase + 4#32 * s.replyTimeout.setWidth 32)) ∧
      (s.expireTag t).freeTags = s.freeTags := by
  unfold State.expireTag
  rw [if_pos (by simpa using waiting), State.endCounts_frame]
  exact ⟨rfl, rfl⟩

theorem State.issueTag_of_not_queued {s : State} {t : Fin 48} (other : (s.tags[t]).state ≠ .queued) :
    s.issueTag t = s := by
  unfold State.issueTag
  rw [if_neg (by simpa using other)]

theorem State.issueTag_of_queued {s : State} {t : Fin 48} (queued : (s.tags[t]).state = .queued) :
    s.issueTag t = s.setTag t ((s.tags[t]).issued (s.timeBase + s.replyTimeout.setWidth 32)) := by
  unfold State.issueTag
  rw [if_pos (by simpa using queued)]

/-- A tag record after the loss of the D port (R68). -/
def TagRecord.lost (r : TagRecord) : TagRecord :=
  if r.inFlight = true ∧ r.owner = .requester then r.close
  else if r.inFlight = true ∨ r.state = .expired then r.freed
  else r

/-- A tag is freed by the loss of the D port (R68). -/
def TagRecord.freedByLoss (r : TagRecord) : Bool := (r.inFlight && r.owner != .requester) || r.state == .expired

theorem State.closeTag_pool (s : State) (t : Fin 48) :
    (s.closeTag t).tags = s.tags.set t (s.tags[t]).lost ∧
      (s.closeTag t).freeTags = s.freeTags ++ (if (s.tags[t]).freedByLoss then [t] else []) := by
  have putFree : (s.putFree t).tags = s.tags.set t (s.tags[t]).freed ∧ (s.putFree t).freeTags = s.freeTags ++ [t] :=
    ⟨rfl, rfl⟩
  obtain ⟨tags, free⟩ := putFree
  unfold State.closeTag TagRecord.lost TagRecord.freedByLoss TagRecord.inFlight
  dsimp only
  split
  next state owner => simp [-Fin.getElem_fin, state, owner]
  next state owner => simp [-Fin.getElem_fin, state, owner]
  next state owner => rw [State.takeFault_frame]; simp [-Fin.getElem_fin, state, owner, tags, free]
  next state owner => rw [State.takeFault_frame]; simp [-Fin.getElem_fin, state, owner, tags, free]
  next state owner => simp [-Fin.getElem_fin, state, owner, tags, free]
  next state owner => simp [-Fin.getElem_fin, state, owner, tags, free]
  next state => simp [-Fin.getElem_fin, state, tags, free]
  next state => simp [-Fin.getElem_fin, state, set_getElem_fin]
  next state => simp [-Fin.getElem_fin, state, set_getElem_fin]

theorem State.loseChannel_frame (c : Fin 2) (s : State) :
    s.loseChannel c = { s with
      channels := (s.loseChannel c).channels, faultLog := (s.loseChannel c).faultLog
      lostCount := (s.loseChannel c).lostCount, pendingCauses := (s.loseChannel c).pendingCauses } := by
  unfold State.loseChannel
  dsimp only
  repeat' split
  · rw [State.haltNow_frame]
  · rw [State.haltNow_frame]
  · rfl

theorem State.takeLoss_pool (s : State) :
    (s.takeLoss .d).tags = s.closeTags.tags ∧ (s.takeLoss .d).freeTags = s.closeTags.freeTags := by
  have kept (c : Fin 2) (u : State) : (u.loseChannel c).tags = u.tags ∧ (u.loseChannel c).freeTags = u.freeTags := by
    rw [State.loseChannel_frame]; exact ⟨rfl, rfl⟩
  unfold State.takeLoss
  dsimp only
  rw [State.endAllInFlight_frame]
  dsimp only
  constructor
  · rw [(kept 1 _).1, (kept 0 _).1, State.emptyIssueQueue_frame]
  · rw [(kept 1 _).2, (kept 0 _).2, State.emptyIssueQueue_frame]

/-! ### The law -/

/-- The deadline of a tag is present exactly in WAITING and EXPIRED. -/
def TagRecord.timed (r : TagRecord) : Prop :=
  (r.deadline.isSome = true ↔ r.state = .waiting ∨ r.state = .expired) ∧ (r.reached = true → r.deadline.isSome = true)

theorem State.tagLaw_congr {s t : State} (tags : t.tags = s.tags) (free : t.freeTags = s.freeTags) (law : s.tagLaw) :
    t.tagLaw := by
  unfold State.tagLaw at *
  rwa [tags, free]

/-- One record changes, and with it what the free tag list holds of that tag. -/
theorem State.tagLaw_set {s t : State} (law : s.tagLaw) (i : Fin 48) {r : TagRecord} (timed : r.timed)
    (tags : t.tags = s.tags.set i r) (counted : t.freeTags.count i = if r.state = .free then 1 else 0)
    (others : ∀ j, j ≠ i → t.freeTags.count j = s.freeTags.count j) : t.tagLaw := by
  intro j
  rw [tags, getElem_set_fin]
  split
  next same => subst same; exact ⟨counted, timed⟩
  next other => rw [others j (Ne.symm other)]; exact law j

theorem State.tagLaw_free {s t : State} (law : s.tagLaw) {i : Fin 48} (used : (s.tags[i]).state ≠ .free)
    (tags : t.tags = s.tags.set i (s.tags[i]).freed) (free : t.freeTags = s.freeTags ++ [i]) : t.tagLaw := by
  refine State.tagLaw_set law i (by simp [TagRecord.timed, TagRecord.freed]) tags ?_ fun j other => ?_
  · have absent := (law i).1
    rw [if_neg used] at absent
    simp [free, absent, TagRecord.freed]
  · simp [free, List.count_append, Ne.symm other]

theorem State.tagLaw_take {s t : State} (law : s.tagLaw) {i : Fin 48} {rest : List (Fin 48)}
    (head : s.freeTags = i :: rest) {r : TagRecord} (queued : r.state = .queued) (timed : r.timed)
    (tags : t.tags = s.tags.set i r) (free : t.freeTags = rest) : t.tagLaw := by
  refine State.tagLaw_set law i timed tags ?_ fun j other => ?_
  · have once := (law i).1
    rw [head, List.count_cons_self] at once
    rw [free, queued, if_neg (by decide)]
    split at once <;> omega
  · rw [free, head, List.count_cons_of_ne (Ne.symm other)]

/-- A tag in use stays in use. -/
theorem State.tagLaw_keep {s t : State} (law : s.tagLaw) {i : Fin 48} {r : TagRecord}
    (used : (s.tags[i]).state ≠ .free) (still : r.state ≠ .free) (timed : r.timed) (tags : t.tags = s.tags.set i r)
    (free : t.freeTags = s.freeTags) : t.tagLaw := by
  refine State.tagLaw_set law i timed tags ?_ fun j _ => by rw [free]
  have absent := (law i).1
  rw [if_neg used] at absent
  rw [free, absent, if_neg still]

theorem State.tagLaw_freeTag {s : State} (law : s.tagLaw) {t : Fin 48} (used : (s.tags[t]).state ≠ .free) :
    (s.freeTag t).tagLaw :=
  State.tagLaw_free law used (State.freeTag_pool used).1 (State.freeTag_pool used).2

theorem State.tagLaw_expireTag {s : State} (law : s.tagLaw) (t : Fin 48) : (s.expireTag t).tagLaw := by
  by_cases waiting : (s.tags[t]).state = .waiting
  · exact State.tagLaw_keep law (by rw [waiting]; decide) (by simp [TagRecord.expire])
      (by simp [TagRecord.timed, TagRecord.expire]) (State.expireTag_pool waiting).1 (State.expireTag_pool waiting).2
  · rw [State.expireTag_of_not_waiting waiting]; exact law

theorem State.tagLaw_issueTag {s : State} (law : s.tagLaw) (t : Fin 48) : (s.issueTag t).tagLaw := by
  by_cases queued : (s.tags[t]).state = .queued
  · rw [State.issueTag_of_queued queued]
    exact State.tagLaw_keep law (by rw [queued]; decide) (by simp [TagRecord.issued])
      (by simp [TagRecord.timed, TagRecord.issued]) rfl rfl
  · rw [State.issueTag_of_not_queued queued]; exact law

theorem State.tagLaw_settleIssue {s : State} (law : s.tagLaw) (e : IssueEntry) : (s.settleIssue e).tagLaw := by
  unfold State.settleIssue
  split
  · exact State.tagLaw_issueTag law _
  · exact State.tagLaw_congr (by rw [State.fall_frame]) (by rw [State.fall_frame]) law

theorem State.tagLaw_haltIfEmpty {s : State} (law : s.tagLaw) (c : Fin 2) : (s.haltIfEmpty c).tagLaw := by
  rw [State.haltIfEmpty_frame]; exact law

theorem State.tagLaw_closeTag {s : State} (law : s.tagLaw) (t : Fin 48) : (s.closeTag t).tagLaw := by
  obtain ⟨tags, free⟩ := s.closeTag_pool t
  by_cases freed : (s.tags[t]).freedByLoss = true
  · rw [if_pos freed] at free
    have used : (s.tags[t]).state ≠ .free ∧ ¬((s.tags[t]).inFlight = true ∧ (s.tags[t]).owner = .requester) ∧
        ((s.tags[t]).inFlight = true ∨ (s.tags[t]).state = .expired) := by
      simp only [TagRecord.freedByLoss, TagRecord.inFlight] at freed ⊢
      generalize (s.tags[t]).state = state at *
      generalize (s.tags[t]).owner = owner at *
      cases state <;> cases owner <;> simp at freed ⊢
    obtain ⟨used, other, ends⟩ := used
    refine State.tagLaw_free law used ?_ free
    rw [tags, TagRecord.lost, if_neg other, if_pos ends]
  · rw [if_neg freed, List.append_nil] at free
    by_cases owed : (s.tags[t]).inFlight = true ∧ (s.tags[t]).owner = .requester
    · rw [TagRecord.lost, if_pos owed] at tags
      refine State.tagLaw_keep law ?_ (by simp [TagRecord.close]) (by simp [TagRecord.timed, TagRecord.close]) tags free
      intro idle
      simp [-Fin.getElem_fin, TagRecord.inFlight, idle] at owed
    · have still : (s.tags[t]).lost = s.tags[t] := by
        rw [TagRecord.lost, if_neg owed, if_neg]
        simp only [TagRecord.freedByLoss, Bool.or_eq_true, Bool.and_eq_true, bne_iff_ne, beq_iff_eq] at freed
        exact fun held => held.elim (fun flying => freed (.inl ⟨flying, fun own => owed ⟨flying, own⟩⟩))
          (fun expired => freed (.inr expired))
      rw [still] at tags
      refine State.tagLaw_congr (s := s) (tags.trans (set_getElem_fin _ _)) free law

theorem State.tagLaw_takeLoss {s : State} (law : s.tagLaw) : (s.takeLoss .d).tagLaw := by
  have closed : s.closeTags.tagLaw := kept_foldl (P := State.tagLaw) (fun _ t law => State.tagLaw_closeTag law t) _ law
  obtain ⟨tags, free⟩ := s.takeLoss_pool
  exact State.tagLaw_congr tags free closed

theorem State.tagLaw_fenceFlush {s : State} (law : s.tagLaw) (queue removed : List IssueEntry) (q : Fin 16) :
    (removed.foldl State.flushUntagged ((List.finRange 48).foldl (State.flushTag queue q) s)).tagLaw := by
  refine kept_foldl (P := State.tagLaw) (fun u e law => ?_) _ (kept_foldl (P := State.tagLaw) (fun u t law => ?_) _ law)
  · unfold State.flushUntagged
    split
    · exact State.tagLaw_congr (by rw [State.fall_frame]) (by rw [State.fall_frame]) law
    · exact law
  · unfold State.flushTag
    split
    next queued =>
      simp only [Bool.and_eq_true, beq_iff_eq] at queued
      exact State.tagLaw_freeTag law (by rw [queued.2]; decide)
    · exact law

theorem State.Aside.tagLaw {s t : State} (h : s.Aside t) (law : s.tagLaw) : t.tagLaw :=
  State.tagLaw_congr (by rw [h.frame]) (by rw [h.frame]) law

theorem TagRecord.timed_forwardTag (r : Request) (kind : RequestKind) (p : Passage) : (forwardTag r kind p).timed := by
  simp [TagRecord.timed, forwardTag]

theorem TagRecord.timed_channelTag (c : Fin 2) (e : IssueEntry) : (channelTag c e).timed := by
  simp [TagRecord.timed, channelTag]

theorem Move.tagLaw {wild : Prop} {s t : State} (move : Move wild s t) (law : s.tagLaw) : t.tagLaw := by
  cases move with
  | aside h => exact h.tagLaw law
  | stages | records | begins | invalid | drains | rewrites | turns | recasts | popsReply => exact law
  | swaps =>
    exact State.tagLaw_congr (by rw [State.swapIfDrained_frame]) (by rw [State.swapIfDrained_frame]) law
  | forwards r kind p =>
    obtain ⟨-, same⟩ | ⟨t, rest, -, head, same⟩ := s.forward_cases r kind p <;> rw [same]
    · exact law
    · exact State.tagLaw_take law head rfl (TagRecord.timed_forwardTag r kind p) rfl rfl
  | installs c e copyWrite change =>
    obtain ⟨-, same⟩ | ⟨t, rest, -, head, same⟩ := s.install_cases c e copyWrite change <;> rw [same]
    · exact law
    · exact State.tagLaw_take law head rfl (TagRecord.timed_channelTag c e) rfl rfl
  | takesTag c =>
    obtain same | ⟨f, t, rest, -, -, head, same⟩ := s.channelTakesTag_cases c <;> rw [same]
    · exact law
    · exact State.tagLaw_take law head rfl (TagRecord.timed_channelTag c f.entry) rfl rfl
  | stops c cause index address =>
    exact State.tagLaw_congr (by rw [State.enterDrain_frame]) (by rw [State.enterDrain_frame]) law
  | grantsQueue e rest head aside => exact State.tagLaw_settleIssue (aside.tagLaw law) e
  | grantsChannel c f formed ready aside => exact State.tagLaw_settleIssue (aside.tagLaw law) f.entry
  | frees t used => exact State.tagLaw_freeTag law used
  | expires t => exact State.tagLaw_expireTag law t
  | answers t waiting =>
    have freed : (s.freeTag t).tagLaw := State.tagLaw_freeTag law (by rw [waiting]; decide)
    exact State.tagLaw_haltIfEmpty (s := State.setChannel _ _ (s.freeTag t)) freed _
  | @lapses u t _ _ aside =>
    have expired : u.tagLaw := aside.tagLaw (State.tagLaw_expireTag law t)
    exact State.tagLaw_haltIfEmpty (s := State.setChannel _ _ u) expired _
  | flushes q =>
    exact State.tagLaw_fenceFlush (s := { s with issueQueue := s.issueQueue.filter (fun e => e.requester != q) }) law _ _ q
  | loses => exact State.tagLaw_takeLoss law
  | restarts p => cases p <;> exact law

theorem Deed.tagLaw {wild : Prop} {s t : State} (deed : Deed wild s t) (law : s.tagLaw) : t.tagLaw := by
  cases deed with
  | move h => exact h.tagLaw law
  | reply r => exact State.tagLaw_congr (by rw [State.placeReply_frame]) (by rw [State.placeReply_frame]) law

theorem Whole.tagLaw {s t : State} (whole : Whole s t) (law : s.tagLaw) : t.tagLaw := by
  cases whole with
  | powersOn => exact State.reset_tagLaw
  | startsUp u => rw [State.startUp_frame]; exact State.reset_tagLaw
  | gathers | goodImage => exact law
  | badImage words cause => rw [State.failLoad_frame]; exact law
  | badBank i cause other _ loading =>
    rw [State.validationFails_of_loading i cause other loading, State.failLoad_frame]
    exact law
  | comesUp p => rw [State.grantAfterLoading_frame]; cases p <;> exact law

theorem TagRecord.tick_state (now : Word) (r : TagRecord) : (r.tick now).state = r.state := by
  unfold TagRecord.tick
  split <;> rfl

theorem TagRecord.tick_deadline (now : Word) (r : TagRecord) : (r.tick now).deadline = r.deadline := by
  unfold TagRecord.tick
  split <;> rfl

theorem TagRecord.timed_tick {r : TagRecord} (timed : r.timed) (now : Word) : (r.tick now).timed := by
  unfold TagRecord.tick
  split
  next d deadline => exact ⟨timed.1, fun _ => by rw [deadline]; rfl⟩
  · exact timed

/-- One microsecond marks deadlines and does nothing else to the tags. -/
theorem State.tick_cases (s : State) :
    s.tick = s ∨ ∃ now, s.tick = { s with timeBase := now, tags := mapTable (TagRecord.tick now) s.tags } := by
  unfold State.tick
  split
  · exact .inl rfl
  · exact .inr ⟨_, rfl⟩

theorem State.tagLaw_tick {s : State} (law : s.tagLaw) : s.tick.tagLaw := by
  obtain same | ⟨now, same⟩ := s.tick_cases <;> rw [same]
  · exact law
  · intro t
    obtain ⟨counted, timed⟩ := law t
    simp only [mapTable_getElem, TagRecord.tick_state]
    have marked := TagRecord.timed_tick timed now
    simp only [TagRecord.timed, TagRecord.tick_state] at marked
    exact ⟨counted, marked⟩

/-- Settles O8: a tag leaves the free list as it becomes QUEUED, and returns to its tail as it becomes FREE. -/
theorem tagLawKept : Obligations.TagLawKept := fun _ _ law next =>
  law_kept_of_step (fun _ => id) (fun _ _ => Deed.tagLaw) (fun _ event => event.tagLaw law) State.tagLaw_tick law next

end Sys2Proof.Machine

/-! The law of tag use: which channel and which entry of the issue queue holds which tag (R52, R54, R87). -/

namespace Sys2Proof.Machine

/-! ### Runs over all tags -/

/-- A run over some tags that changes each one's record by itself. -/
theorem foldl_tags_getElem {f : State → Fin 48 → State} {change : Fin 48 → TagRecord → TagRecord}
    (each : ∀ s t, (f s t).tags = s.tags.set t (change t s.tags[t])) (l : List (Fin 48)) (once : l.Nodup) (s : State)
    (j : Fin 48) : (l.foldl f s).tags[j] = if j ∈ l then change j s.tags[j] else s.tags[j] := by
  induction l generalizing s with
  | nil => rfl
  | cons t rest step =>
    obtain ⟨fresh, once⟩ := List.nodup_cons.mp once
    rw [List.foldl_cons, step once, each, getElem_set_fin]
    by_cases same : t = j
    · subst same; simp [-Fin.getElem_fin, fresh]
    · simp [-Fin.getElem_fin, same, Ne.symm same]

/-- A run over some tags that appends those it frees to the free tag list. -/
theorem foldl_freeTags {f : State → Fin 48 → State} {change : Fin 48 → TagRecord → TagRecord}
    {frees : Fin 48 → TagRecord → Bool} (each : ∀ s t, (f s t).tags = s.tags.set t (change t s.tags[t]))
    (appends : ∀ s t, (f s t).freeTags = s.freeTags ++ if frees t s.tags[t] then [t] else [])
    (l : List (Fin 48)) (once : l.Nodup) (s : State) :
    (l.foldl f s).freeTags = s.freeTags ++ l.filter (fun t => frees t s.tags[t]) := by
  induction l generalizing s with
  | nil => simp
  | cons t rest step =>
    obtain ⟨fresh, once⟩ := List.nodup_cons.mp once
    have others : rest.filter (fun j => frees j (f s t).tags[j]) = rest.filter (fun j => frees j s.tags[j]) := by
      refine List.filter_congr fun j mem => ?_
      rw [each, getElem_set_fin, if_neg (fun same : t = j => fresh (same ▸ mem))]
    rw [List.foldl_cons, step once, others, appends, List.filter_cons]
    split <;> simp [-Fin.getElem_fin]

theorem State.closeTags_tags (s : State) (j : Fin 48) : s.closeTags.tags[j] = (s.tags[j]).lost := by
  refine (foldl_tags_getElem (change := fun _ => TagRecord.lost) (fun s t => (s.closeTag_pool t).1) _
    (List.nodup_finRange 48) s j).trans (if_pos (List.mem_finRange j))

theorem State.closeTags_freeTags (s : State) :
    s.closeTags.freeTags = s.freeTags ++ (List.finRange 48).filter (fun t => (s.tags[t]).freedByLoss) :=
  foldl_freeTags (change := fun _ => TagRecord.lost) (frees := fun _ => TagRecord.freedByLoss)
    (fun s t => (s.closeTag_pool t).1) (fun s t => (s.closeTag_pool t).2) _ (List.nodup_finRange 48) s

/-- A tag record after its entry has left the issue queue (R54). -/
def TagRecord.flushed (queue : List IssueEntry) (q : Fin 16) (t : Fin 48) (r : TagRecord) : TagRecord :=
  if flushes queue q t && r.state == .queued then r.freed else r

theorem State.flushTag_pool (queue : List IssueEntry) (q : Fin 16) (s : State) (t : Fin 48) :
    (s.flushTag queue q t).tags = s.tags.set t ((s.tags[t]).flushed queue q t) ∧
      (s.flushTag queue q t).freeTags =
        s.freeTags ++ if flushes queue q t && (s.tags[t]).state == .queued then [t] else [] := by
  unfold State.flushTag TagRecord.flushed
  split
  next queued =>
    have used : (s.tags[t]).state ≠ .free := by
      simp only [Bool.and_eq_true, beq_iff_eq] at queued
      rw [queued.2]
      decide
    exact State.freeTag_pool used
  · exact ⟨(set_getElem_fin _ _).symm, (List.append_nil _).symm⟩

theorem State.flush_pool (queue removed : List IssueEntry) (q : Fin 16) (s : State) :
    let t := removed.foldl State.flushUntagged ((List.finRange 48).foldl (State.flushTag queue q) s)
    (∀ j : Fin 48, t.tags[j] = (s.tags[j]).flushed queue q j) ∧
      t.freeTags = s.freeTags ++
        (List.finRange 48).filter (fun t => flushes queue q t && (s.tags[t]).state == .queued) := by
  have kept (u : State) : (removed.foldl State.flushUntagged u).tags = u.tags ∧
      (removed.foldl State.flushUntagged u).freeTags = u.freeTags := by
    refine kept_foldl (P := fun v => v.tags = u.tags ∧ v.freeTags = u.freeTags) (fun v e same => ?_) _ ⟨rfl, rfl⟩
    unfold State.flushUntagged
    split
    · rw [State.fall_frame]; exact same
    · exact same
  refine ⟨fun j => ?_, (kept _).2.trans ?_⟩
  · rw [(kept _).1]
    exact (foldl_tags_getElem (change := TagRecord.flushed queue q) (fun s t => (s.flushTag_pool queue q t).1) _
      (List.nodup_finRange 48) s j).trans (if_pos (List.mem_finRange j))
  · exact foldl_freeTags (change := TagRecord.flushed queue q)
      (frees := fun t r => flushes queue q t && r.state == .queued) (fun s t => (s.flushTag_pool queue q t).1)
      (fun s t => (s.flushTag_pool queue q t).2) _ (List.nodup_finRange 48) s

/-! ### Who holds a tag -/

/-- The record of a tag that channel `c` holds. -/
def TagRecord.heldBy (c : Fin 2) (r : TagRecord) : Prop := r.inFlight = true ∧ r.owner = .channel ∧ r.ownerChannel = c

/-- The record of the tag of channel `c`'s formed request. -/
def TagRecord.formedBy (c : Fin 2) (r : TagRecord) : Prop :=
  r.state = .queued ∧ r.owner = .channel ∧ r.ownerChannel = c

/-- The record of a tag that an entry of the issue queue holds. -/
def TagRecord.inQueue (r : TagRecord) : Prop := r.state = .queued ∧ r.owner ≠ .channel

theorem TagRecord.formedBy.held {c : Fin 2} {r : TagRecord} (h : r.formedBy c) : r.heldBy c := by
  obtain ⟨queued, owner, channel⟩ := h
  exact ⟨by simp [TagRecord.inFlight, queued], owner, channel⟩

theorem TagRecord.not_heldBy_of_state {r : TagRecord} (c : Fin 2) (queued : r.state ≠ .queued)
    (waiting : r.state ≠ .waiting) : ¬r.heldBy c := by
  rintro ⟨inFlight, -, -⟩
  simp [TagRecord.inFlight, queued, waiting] at inFlight

theorem TagRecord.not_heldBy_of_owner {r : TagRecord} (c : Fin 2) (owner : r.owner ≠ .channel) : ¬r.heldBy c :=
  fun h => owner h.2.1

/-- The tag of a channel's formed request. -/
def Channel.formedTag (ch : Channel) : Option (Fin 48) := ch.formed.bind (fun f => f.entry.tag)

/-- The tags a channel record holds are those that the tag records give it. -/
def Channel.holds (c : Fin 2) (v : Vector TagRecord 48) (ch : Channel) : Prop :=
  ch.tagsHeld.Nodup ∧ ∀ t : Fin 48, (t ∈ ch.tagsHeld ↔ (v[t]).heldBy c) ∧ (ch.formedTag = some t ↔ (v[t]).formedBy c)

/-- A tag record belongs to an entry. -/
def TagRecord.names (r : TagRecord) (e : IssueEntry) : Prop :=
  r.ownerRequester = e.requester ∧ r.index = e.index ∧ r.generation = e.generation

/-- The tags of a queue are those that the tag records give it. -/
def queueHolds (v : Vector TagRecord 48) (queue : List IssueEntry) : Prop :=
  (queue.filterMap IssueEntry.tag).Nodup ∧ (∀ t : Fin 48, t ∈ queue.filterMap IssueEntry.tag ↔ (v[t]).inQueue) ∧
    ∀ e ∈ queue, ∀ t : Fin 48, e.tag = some t → (v[t]).names e

theorem State.tagUseLaw_iff (s : State) :
    s.tagUseLaw ↔ (∀ c : Fin 2, (s.channels[c]).holds c s.tags) ∧ queueHolds s.tags s.issueQueue := Iff.rfl

/-! ### Channels -/

theorem Channel.holds_congr {c : Fin 2} {v : Vector TagRecord 48} {ch new : Channel} (held : new.tagsHeld = ch.tagsHeld)
    (formed : new.formedTag = ch.formedTag) (h : ch.holds c v) : new.holds c v := by
  unfold Channel.holds at *
  rwa [held, formed]

/-- A tag changes that does not touch the channel. -/
theorem Channel.holds_set {c : Fin 2} {v : Vector TagRecord 48} {ch : Channel} (h : ch.holds c v) {t : Fin 48}
    {r : TagRecord} (held : r.heldBy c ↔ (v[t]).heldBy c) (formed : r.formedBy c ↔ (v[t]).formedBy c) :
    ch.holds c (v.set t r) := by
  refine ⟨h.1, fun j => ?_⟩
  rw [getElem_set_fin]
  split
  next same => subst same; rw [held, formed]; exact h.2 _
  · exact h.2 j

/-- A tag changes that the channel holds neither before nor after. -/
theorem Channel.holds_set_other {c : Fin 2} {v : Vector TagRecord 48} {ch : Channel} (h : ch.holds c v) {t : Fin 48}
    {r : TagRecord} (before : ¬(v[t]).heldBy c) (after : ¬r.heldBy c) : ch.holds c (v.set t r) :=
  Channel.holds_set h (iff_of_false after before) (iff_of_false (fun k => after k.held) (fun k => before k.held))

/-- A channel takes a tag for its formed request. -/
theorem Channel.holds_add {c : Fin 2} {v : Vector TagRecord 48} {ch new : Channel} (h : ch.holds c v) {t : Fin 48}
    {r : TagRecord} (vacant : ch.formedTag = none) (free : ¬(v[t]).heldBy c) (held : new.tagsHeld = ch.tagsHeld ++ [t])
    (formed : new.formedTag = some t) (suits : r.formedBy c) : new.holds c (v.set t r) := by
  obtain ⟨once, holds⟩ := h
  have fresh : t ∉ ch.tagsHeld := fun mem => free ((holds t).1.mp mem)
  refine ⟨?_, fun j => ?_⟩
  · rw [held]
    exact List.nodup_append.mpr ⟨once, List.pairwise_singleton _ t, fun a mem b other => by
      rw [List.mem_singleton] at other
      exact fun same => fresh (other ▸ same ▸ mem)⟩
  · rw [getElem_set_fin, held, formed]
    split
    next same => subst same; simp [suits, suits.held]
    next other =>
      have none : ¬(v[j]).formedBy c := fun k => by
        rw [← (holds j).2, vacant] at k
        cases k
      simp [-Fin.getElem_fin, (holds j).1, none, other, Ne.symm other]

/-- A channel gives up a tag that its formed request does not have. -/
theorem Channel.holds_endTag {c : Fin 2} {v : Vector TagRecord 48} {ch : Channel} (h : ch.holds c v) {t : Fin 48}
    {r : TagRecord} (issued : (v[t]).state ≠ .queued) (after : ¬r.heldBy c) : (ch.endTag t).holds c (v.set t r) := by
  obtain ⟨once, holds⟩ := h
  refine ⟨once.filter _, fun j => ?_⟩
  rw [getElem_set_fin]
  split
  next same =>
    subst same
    have other : ¬(v[t]).formedBy c := fun k => issued k.1
    refine ⟨iff_of_false (by simp [Channel.endTag]) after, iff_of_false (fun k => other ((holds t).2.mp k)) (fun k => after k.held)⟩
  next other =>
    refine ⟨?_, (holds j).2⟩
    rw [← (holds j).1]
    simp [Channel.endTag, Ne.symm other]

/-- A formed request is issued: its tag, where it has one, is WAITING. -/
theorem Channel.holds_issue {c : Fin 2} {v : Vector TagRecord 48} {ch : Channel} (h : ch.holds c v) {t : Fin 48}
    (formed : ch.formedTag = some t) {r : TagRecord} (waiting : r.state = .waiting) (owner : r.owner = (v[t]).owner)
    (channel : r.ownerChannel = (v[t]).ownerChannel) : Channel.holds c (v.set t r) { ch with formed := none } := by
  obtain ⟨once, holds⟩ := h
  have suits := (holds t).2.mp formed
  refine ⟨once, fun j => ?_⟩
  rw [getElem_set_fin]
  split
  next same =>
    subst same
    refine ⟨iff_of_true ((holds t).1.mpr suits.held) ⟨by simp [TagRecord.inFlight, waiting], owner.trans suits.2.1,
      channel.trans suits.2.2⟩, iff_of_false (fun k => nomatch k) (fun k => ?_)⟩
    rw [TagRecord.formedBy, waiting] at k
    exact nomatch k.1
  next other =>
    refine ⟨(holds j).1, iff_of_false (fun k => nomatch k) (fun k => ?_)⟩
    rw [← (holds j).2, formed] at k
    exact other (Option.some.inj k)

/-- A channel that holds no tag can halt. -/
theorem Channel.holds_halt {c : Fin 2} {v : Vector TagRecord 48} {ch : Channel} (h : ch.holds c v)
    (empty : ch.tagsHeld = []) : ch.halt.holds c v := by
  refine ⟨List.nodup_nil, fun t => ?_⟩
  have none : ¬(v[t]).heldBy c := fun k => by
    rw [← (h.2 t).1, empty] at k
    cases k
  exact ⟨iff_of_false (fun k => nomatch k) none, iff_of_false (fun k => nomatch k) (fun k => none k.held)⟩

/-! ### The issue queue -/

/-- A tag changes that is not in the queue. -/
theorem queueHolds.set_other {v : Vector TagRecord 48} {queue : List IssueEntry} (h : queueHolds v queue) {t : Fin 48}
    {r : TagRecord} (before : ¬(v[t]).inQueue) (after : ¬r.inQueue) : queueHolds (v.set t r) queue := by
  obtain ⟨once, holds, names⟩ := h
  refine ⟨once, fun j => ?_, fun e mem j tag => ?_⟩
  · rw [getElem_set_fin]
    split
    next same => subst same; rw [holds]; exact iff_of_false before after
    · exact holds j
  · rw [getElem_set_fin, if_neg]
    · exact names e mem j tag
    · rintro rfl
      exact before ((holds t).mp (List.mem_filterMap.mpr ⟨e, mem, tag⟩))

theorem queueHolds.append_untagged {v : Vector TagRecord 48} {queue : List IssueEntry} (h : queueHolds v queue)
    {e : IssueEntry} (untagged : e.tag = none) : queueHolds v (queue ++ [e]) := by
  obtain ⟨once, holds, names⟩ := h
  have same : (queue ++ [e]).filterMap IssueEntry.tag = queue.filterMap IssueEntry.tag := by simp [untagged]
  refine ⟨same ▸ once, fun t => same ▸ holds t, fun x mem t tag => ?_⟩
  obtain mem | rfl := List.mem_append.mp mem |>.imp_right List.mem_singleton.mp
  · exact names x mem t tag
  · rw [untagged] at tag; cases tag

theorem queueHolds.append_tagged {v : Vector TagRecord 48} {queue : List IssueEntry} (h : queueHolds v queue)
    {e : IssueEntry} {t : Fin 48} (tagged : e.tag = some t) (free : ¬(v[t]).inQueue) {r : TagRecord}
    (queued : r.inQueue) (own : r.names e) : queueHolds (v.set t r) (queue ++ [e]) := by
  obtain ⟨once, holds, names⟩ := h
  have same : (queue ++ [e]).filterMap IssueEntry.tag = queue.filterMap IssueEntry.tag ++ [t] := by simp [tagged]
  have fresh : t ∉ queue.filterMap IssueEntry.tag := fun mem => free ((holds t).mp mem)
  refine ⟨?_, fun j => ?_, fun x mem j tag => ?_⟩
  · rw [same]
    exact List.nodup_append.mpr ⟨once, List.pairwise_singleton _ t, fun a mem b other => by
      rw [List.mem_singleton] at other
      exact fun same => fresh (other ▸ same ▸ mem)⟩
  · rw [same, getElem_set_fin]
    split
    next same => subst same; simp [queued]
    next other => rw [List.mem_append, holds j]; simp [-Fin.getElem_fin, Ne.symm other]
  · rw [getElem_set_fin]
    obtain mem | rfl := List.mem_append.mp mem |>.imp_right List.mem_singleton.mp
    · rw [if_neg]
      · exact names x mem j tag
      · rintro rfl
        exact fresh (List.mem_filterMap.mpr ⟨x, mem, tag⟩)
    · rw [tagged] at tag
      cases tag
      rw [if_pos rfl]
      exact own

theorem queueHolds.tail_untagged {v : Vector TagRecord 48} {e : IssueEntry} {rest : List IssueEntry}
    (h : queueHolds v (e :: rest)) (untagged : e.tag = none) : queueHolds v rest := by
  obtain ⟨once, holds, names⟩ := h
  have same : (e :: rest).filterMap IssueEntry.tag = rest.filterMap IssueEntry.tag := by simp [untagged]
  exact ⟨same ▸ once, fun t => same ▸ holds t, fun x mem => names x (List.mem_cons_of_mem e mem)⟩

/-- The head of the queue is issued: its tag leaves QUEUED. -/
theorem queueHolds.tail_tagged {v : Vector TagRecord 48} {e : IssueEntry} {rest : List IssueEntry}
    (h : queueHolds v (e :: rest)) {t : Fin 48} (tagged : e.tag = some t) {r : TagRecord} (after : ¬r.inQueue) :
    queueHolds (v.set t r) rest := by
  obtain ⟨once, holds, names⟩ := h
  have same : (e :: rest).filterMap IssueEntry.tag = t :: rest.filterMap IssueEntry.tag := by simp [tagged]
  rw [same] at once holds
  obtain ⟨fresh, once⟩ := List.nodup_cons.mp once
  refine ⟨once, fun j => ?_, fun x mem j tag => ?_⟩
  · rw [getElem_set_fin]
    split
    next same => subst same; exact iff_of_false fresh after
    next other => rw [← holds j, List.mem_cons]; simp [Ne.symm other]
  · rw [getElem_set_fin, if_neg]
    · exact names x (List.mem_cons_of_mem e mem) j tag
    · rintro rfl
      exact fresh (List.mem_filterMap.mpr ⟨x, mem, tag⟩)

/-- The entries of a requester leave the queue and their tags become FREE (R47, R54). -/
theorem queueHolds.flush {v w : Vector TagRecord 48} {queue : List IssueEntry} (h : queueHolds v queue) (q : Fin 16)
    (changed : ∀ t : Fin 48, w[t] = (v[t]).flushed queue q t) :
    queueHolds w (queue.filter (fun e => e.requester != q)) := by
  obtain ⟨once, holds, names⟩ := h
  have sub : ((queue.filter (fun e => e.requester != q)).filterMap IssueEntry.tag).Sublist
      (queue.filterMap IssueEntry.tag) := List.filter_sublist.filterMap _
  have unflushed {e : IssueEntry} (mem : e ∈ queue) {t : Fin 48} (tag : e.tag = some t) (other : e.requester ≠ q) :
      w[t] = v[t] := by
    have none : flushes queue q t = false := by
      refine Classical.byContradiction fun some => ?_
      simp only [flushes, Bool.not_eq_false, List.any_eq_true, Bool.and_eq_true, beq_iff_eq] at some
      obtain ⟨x, xmem, requester, xtag⟩ := some
      exact other ((names e mem t tag).1.symm.trans ((names x xmem t xtag).1.trans requester))
    rw [changed, TagRecord.flushed, none]
    rfl
  refine ⟨sub.nodup once, fun t => ⟨fun mem => ?_, fun queued => ?_⟩, fun e mem t tag => ?_⟩
  · obtain ⟨e, mem, tag⟩ := List.mem_filterMap.mp mem
    obtain ⟨mem, other⟩ := List.mem_filter.mp mem
    rw [unflushed mem tag (by simpa using other), ← holds]
    exact List.mem_filterMap.mpr ⟨e, mem, tag⟩
  · have flushed := queued
    rw [changed, TagRecord.flushed] at queued
    split at queued
    · exact nomatch queued.1
    next keeps =>
      obtain ⟨e, mem, tag⟩ := List.mem_filterMap.mp ((holds t).mpr queued)
      refine List.mem_filterMap.mpr ⟨e, List.mem_filter.mpr ⟨mem, ?_⟩, tag⟩
      refine Classical.byContradiction fun own => ?_
      refine keeps ?_
      simp only [flushes, List.any_eq_true, Bool.and_eq_true, beq_iff_eq]
      exact ⟨⟨e, mem, by simpa using own, tag⟩, queued.1⟩
  · obtain ⟨mem, other⟩ := List.mem_filter.mp mem
    rw [unflushed mem tag (by simpa using other)]
    exact names e mem t tag

/-! ### The law -/

theorem State.tagUseLaw_congr {s t : State} (tags : t.tags = s.tags) (channels : t.channels = s.channels)
    (queue : t.issueQueue = s.issueQueue) (law : s.tagUseLaw) : t.tagUseLaw := by
  rw [State.tagUseLaw_iff] at *
  rwa [tags, channels, queue]

/-- One tag changes with the channel that holds it. -/
theorem State.tagUseLaw_setChannel {s t : State} (law : s.tagUseLaw) {g : Fin 48} {r : TagRecord} (c : Fin 2)
    {ch : Channel} (tags : t.tags = s.tags.set g r) (channels : t.channels = s.channels.set c ch)
    (queue : t.issueQueue = s.issueQueue) (holds : ch.holds c (s.tags.set g r))
    (before : ∀ d, d ≠ c → ¬(s.tags[g]).heldBy d) (after : ∀ d, d ≠ c → ¬r.heldBy d) (unqueued : ¬(s.tags[g]).inQueue)
    (still : ¬r.inQueue) : t.tagUseLaw := by
  obtain ⟨held, queued⟩ := s.tagUseLaw_iff.mp law
  rw [State.tagUseLaw_iff, tags, channels, queue]
  refine ⟨fun d => ?_, queued.set_other unqueued still⟩
  rw [getElem_set_fin]
  split
  next same => subst same; exact holds
  next other => exact Channel.holds_set_other (held d) (before d (Ne.symm other)) (after d (Ne.symm other))

/-- One tag changes that no channel and no entry holds. -/
theorem State.tagUseLaw_setTag {s t : State} (law : s.tagUseLaw) {g : Fin 48} {r : TagRecord}
    (tags : t.tags = s.tags.set g r) (channels : t.channels = s.channels) (queue : t.issueQueue = s.issueQueue)
    (before : ∀ d, ¬(s.tags[g]).heldBy d) (after : ∀ d, ¬r.heldBy d) (unqueued : ¬(s.tags[g]).inQueue)
    (still : ¬r.inQueue) : t.tagUseLaw := by
  obtain ⟨held, queued⟩ := s.tagUseLaw_iff.mp law
  rw [State.tagUseLaw_iff, tags, channels, queue]
  exact ⟨fun d => Channel.holds_set_other (held d) (before d) (after d), queued.set_other unqueued still⟩

/-- A channel's record changes, and no tag. -/
theorem State.tagUseLaw_recast {s t : State} (law : s.tagUseLaw) (c : Fin 2) {ch : Channel} (tags : t.tags = s.tags)
    (channels : t.channels = s.channels.set c ch) (queue : t.issueQueue = s.issueQueue) (holds : ch.holds c s.tags) :
    t.tagUseLaw := by
  obtain ⟨held, queued⟩ := s.tagUseLaw_iff.mp law
  rw [State.tagUseLaw_iff, tags, channels, queue]
  refine ⟨fun d => ?_, queued⟩
  rw [getElem_set_fin]
  split
  next same => subst same; exact holds
  · exact held d

theorem State.tagUseLaw_haltIfEmpty {s : State} (law : s.tagUseLaw) (c : Fin 2) : (s.haltIfEmpty c).tagUseLaw := by
  unfold State.haltIfEmpty
  split
  next empty =>
    simp only [Bool.and_eq_true, List.isEmpty_iff] at empty
    refine State.tagUseLaw_recast law c (ch := (s.channels[c]).halt) ?_ ?_ ?_ (Channel.holds_halt (law.1 c) empty.2) <;>
      rw [State.haltNow_frame]
  · exact law

theorem State.tagUseLaw_fall {s : State} (law : s.tagUseLaw) (r : Fin 64) (g : BitVec 8) : (s.fall r g).tagUseLaw :=
  State.tagUseLaw_congr (by rw [State.fall_frame]) (by rw [State.fall_frame]) (by rw [State.fall_frame]) law

theorem Channel.Recast.holds {old new : Channel} (recast : old.Recast new) (law : old.lawful) {c : Fin 2}
    {v : Vector TagRecord 48} (holds : old.holds c v) : new.holds c v := by
  refine Channel.holds_congr recast.tagsHeld ?_ holds
  obtain same | ⟨none, still⟩ := recast.formed
  · rw [Channel.formedTag, same]; rfl
  · obtain ⟨-, -, -, vacant⟩ := law.1.2.1 still
    rw [Channel.formedTag, Channel.formedTag, none, vacant]

theorem Channel.formedTag_drained (ch : Channel) (cause : HaltCause) (index : Option (Fin 64))
    (address : Option Address) : (ch.drained cause index address).formedTag = ch.formedTag := by
  unfold Channel.formedTag Channel.drained
  cases ch.formed with
  | none => rfl
  | some f => cases tag : f.entry.tag <;> simp [Option.filter, tag]

theorem State.dropFormed_keeps (f : Option FormedRequest) (s : State) :
    (s.dropFormed f).tags = s.tags ∧ (s.dropFormed f).channels = s.channels ∧
      (s.dropFormed f).issueQueue = s.issueQueue := by
  rw [State.dropFormed_frame]; exact ⟨rfl, rfl, rfl⟩

theorem State.tagUseLaw_enterDrain {s : State} (law : s.tagUseLaw) (c : Fin 2) (cause : HaltCause)
    (index : Option (Fin 64)) (address : Option Address) : (s.enterDrain c cause index address).tagUseLaw := by
  unfold State.enterDrain
  dsimp only
  split
  · obtain ⟨tags, channels, queue⟩ := s.dropFormed_keeps (s.channels[c]).formed
    have holds : ((s.channels[c]).drained cause index address).holds c s.tags :=
      Channel.holds_congr (ch := s.channels[c]) rfl ((s.channels[c]).formedTag_drained cause index address) (law.1 c)
    refine State.tagUseLaw_haltIfEmpty (s := State.setChannel c _ _) (State.tagUseLaw_recast law c tags ?_ queue holds) c
    rw [State.setChannel_channels, channels]
  · exact State.tagUseLaw_haltIfEmpty law c

/-- An issued entry, out of its place before this moment: its tag becomes WAITING, or its item ends. -/
theorem State.settleIssue_keeps (e : IssueEntry) (s : State) :
    (s.settleIssue e).channels = s.channels ∧ (s.settleIssue e).issueQueue = s.issueQueue ∧
      (e.tag = none → (s.settleIssue e).tags = s.tags) ∧
      ∀ t, e.tag = some t → (s.tags[t]).state = .queued →
        ∃ now, (s.settleIssue e).tags = s.tags.set t ((s.tags[t]).issued now) := by
  unfold State.settleIssue
  split
  next t tag =>
    rw [tag]
    refine ⟨by rw [State.issueTag_frame], by rw [State.issueTag_frame], (fun h => nomatch h), ?_⟩
    rintro u ⟨⟩ queued
    exact ⟨_, congrArg State.tags (State.issueTag_of_queued queued)⟩
  next none =>
    rw [State.fall_frame, none]
    exact ⟨rfl, rfl, fun _ => rfl, fun t tagged => nomatch tagged⟩

theorem TagRecord.issued_not_inQueue (r : TagRecord) (now : Word) : ¬(r.issued now).inQueue := fun h => nomatch h.1

theorem State.Aside.tagUse {s t : State} (h : s.Aside t) :
    t.tags = s.tags ∧ t.channels = s.channels ∧ t.issueQueue = s.issueQueue := by
  rw [h.frame]; exact ⟨rfl, rfl, rfl⟩

theorem State.tagUseLaw_grantsQueue {s t : State} (law : s.tagUseLaw) {e : IssueEntry} {rest : List IssueEntry}
    (head : s.issueQueue = e :: rest) (tags : t.tags = s.tags) (channels : t.channels = s.channels)
    (queue : t.issueQueue = rest) : (t.settleIssue e).tagUseLaw := by
  obtain ⟨held, queued⟩ := s.tagUseLaw_iff.mp law
  obtain ⟨channels', queue', untagged, tagged⟩ := t.settleIssue_keeps e
  rw [head] at queued
  rw [State.tagUseLaw_iff, channels', queue', channels, queue]
  cases tag : e.tag with
  | none =>
    rw [untagged tag, tags]
    exact ⟨held, queued.tail_untagged tag⟩
  | some g =>
    have own : (s.tags[g]).inQueue := (queued.2.1 g).mp (by simp [tag])
    obtain ⟨now, tags'⟩ := tagged g tag (by rw [tags]; exact own.1)
    rw [tags', tags]
    exact ⟨fun d => Channel.holds_set_other (held d) (TagRecord.not_heldBy_of_owner d own.2)
      (TagRecord.not_heldBy_of_owner d own.2), queued.tail_tagged tag (TagRecord.issued_not_inQueue _ now)⟩

theorem State.tagUseLaw_grantsChannel {s t : State} (law : s.tagUseLaw) {c : Fin 2} {f : FormedRequest}
    (formed : (s.channels[c]).formed = some f) (tags : t.tags = s.tags)
    (channels : t.channels = s.channels.set c { s.channels[c] with formed := none })
    (queue : t.issueQueue = s.issueQueue) : (t.settleIssue f.entry).tagUseLaw := by
  obtain ⟨held, queued⟩ := s.tagUseLaw_iff.mp law
  obtain ⟨channels', queue', untagged, tagged⟩ := t.settleIssue_keeps f.entry
  have formedTag : (s.channels[c]).formedTag = f.entry.tag := by rw [Channel.formedTag, formed]; rfl
  cases tag : f.entry.tag with
  | none =>
    exact State.tagUseLaw_recast law c ((untagged tag).trans tags) (channels'.trans channels) (queue'.trans queue)
      (Channel.holds_congr (ch := s.channels[c]) rfl (formedTag.trans tag).symm (held c))
  | some g =>
    obtain ⟨state, owner, channel⟩ := ((held c).2 g).2.mp (formedTag.trans tag)
    obtain ⟨now, tags'⟩ := tagged g tag (by rw [tags]; exact state)
    have other (d : Fin 2) (other : d ≠ c) (k : (s.tags[g]).heldBy d) : False := other (k.2.2.symm.trans channel)
    refine State.tagUseLaw_setChannel law c (tags'.trans (by rw [tags])) (channels'.trans channels) (queue'.trans queue)
      (Channel.holds_issue (held c) (formedTag.trans tag) ?_ ?_ ?_) other ?_ (fun k => k.2 owner)
      (TagRecord.issued_not_inQueue _ now)
    · rfl
    · rfl
    · rfl
    · exact fun d differs k => other d differs ⟨by simp [-Fin.getElem_fin, TagRecord.inFlight, state], owner, k.2.2⟩

/-- A channel's tag in WAITING ends, and the channel without it weighs its halt. -/
theorem State.tagUseLaw_endTag {s u : State} (law : s.tagUseLaw) {t : Fin 48} (waiting : (s.tags[t]).state = .waiting)
    (owner : (s.tags[t]).owner = .channel) {c : Fin 2} (channel : (s.tags[t]).ownerChannel = c) {r : TagRecord} (ended : r.state ≠ .queued ∧ r.state ≠ .waiting)
    (tags : u.tags = s.tags.set t r) (channels : u.channels = s.channels) (queue : u.issueQueue = s.issueQueue) :
    ((u.setChannel c ((s.channels[c]).endTag t)).haltIfEmpty c).tagUseLaw := by
  have after (d : Fin 2) : ¬r.heldBy d := TagRecord.not_heldBy_of_state d ended.1 ended.2
  have holds : ((s.channels[c]).endTag t).holds c (s.tags.set t r) :=
    Channel.holds_endTag (law.1 c) (by rw [waiting]; decide) (after c)
  have others (d : Fin 2) (other : d ≠ c) : ¬(s.tags[t]).heldBy d := fun k => other (k.2.2.symm.trans channel)
  have changed : (u.setChannel c ((s.channels[c]).endTag t)).channels = s.channels.set c ((s.channels[c]).endTag t) := by
    rw [State.setChannel_channels, channels]
  exact State.tagUseLaw_haltIfEmpty (State.tagUseLaw_setChannel law c (by rw [State.setChannel_tags, tags]) changed
    (by rw [State.setChannel_issueQueue, queue]) holds others (fun d _ => after d) (fun k => k.2 owner)
    (fun k => ended.1 k.1)) c

theorem State.freeTag_keeps (t : Fin 48) (s : State) :
    (s.freeTag t).channels = s.channels ∧ (s.freeTag t).issueQueue = s.issueQueue := by
  rw [State.freeTag_frame]; exact ⟨rfl, rfl⟩

theorem State.expireTag_keeps (t : Fin 48) (s : State) :
    (s.expireTag t).channels = s.channels ∧ (s.expireTag t).issueQueue = s.issueQueue := by
  rw [State.expireTag_frame]; exact ⟨rfl, rfl⟩

theorem TagRecord.freed_ended (r : TagRecord) : r.freed.state ≠ .queued ∧ r.freed.state ≠ .waiting := by
  simp [TagRecord.freed]

theorem TagRecord.expire_ended (r : TagRecord) (d : Word) :
    (r.expire d).state ≠ .queued ∧ (r.expire d).state ≠ .waiting := by
  simp [TagRecord.expire]

theorem TagRecord.lost_ended (r : TagRecord) : r.lost.state ≠ .queued ∧ r.lost.state ≠ .waiting := by
  unfold TagRecord.lost TagRecord.inFlight
  split
  · simp [TagRecord.close]
  · split
    · exact r.freed_ended
    next h => simp_all

theorem State.tagUseLaw_flush {s t : State} (law : s.tagUseLaw) (q : Fin 16)
    (tags : ∀ j : Fin 48, t.tags[j] = (s.tags[j]).flushed s.issueQueue q j) (channels : t.channels = s.channels)
    (queue : t.issueQueue = s.issueQueue.filter (fun e => e.requester != q)) : t.tagUseLaw := by
  obtain ⟨held, queued⟩ := s.tagUseLaw_iff.mp law
  rw [State.tagUseLaw_iff, channels, queue]
  refine ⟨fun c => ⟨(held c).1, fun j => ?_⟩, queued.flush q tags⟩
  rw [((held c).2 j).1, ((held c).2 j).2, tags, TagRecord.flushed]
  split
  next gone =>
    simp only [flushes, Bool.and_eq_true, List.any_eq_true, beq_iff_eq] at gone
    obtain ⟨⟨e, mem, -, tag⟩, -⟩ := gone
    have own : (s.tags[j]).inQueue := (queued.2.1 j).mp (List.mem_filterMap.mpr ⟨e, mem, tag⟩)
    have before : ¬(s.tags[j]).heldBy c := TagRecord.not_heldBy_of_owner c own.2
    have after : ¬(s.tags[j]).freed.heldBy c := TagRecord.not_heldBy_of_owner c own.2
    exact ⟨iff_of_false before after, iff_of_false (fun k => before k.held) (fun k => after k.held)⟩
  · exact ⟨Iff.rfl, Iff.rfl⟩

/-- With no tag in flight the law says that nothing is held. -/
theorem State.tagUseLaw_of_quiet {s : State} (quiet : ∀ t : Fin 48, (s.tags[t]).state ≠ .queued ∧ (s.tags[t]).state ≠ .waiting)
    (channels : ∀ c : Fin 2, (s.channels[c]).tagsHeld = [] ∧ (s.channels[c]).formed = none)
    (queue : s.issueQueue = []) : s.tagUseLaw := by
  rw [State.tagUseLaw_iff, queue]
  refine ⟨fun c => ?_, List.nodup_nil, fun t => iff_of_false (by simp) (fun k => (quiet t).1 k.1), by simp⟩
  obtain ⟨held, formed⟩ := channels c
  unfold Channel.holds Channel.formedTag
  rw [held, formed]
  refine ⟨List.nodup_nil, fun t => ?_⟩
  have none : ¬(s.tags[t]).heldBy c := TagRecord.not_heldBy_of_state c (quiet t).1 (quiet t).2
  exact ⟨iff_of_false (by simp) none, iff_of_false (by simp) (fun k => none k.held)⟩

theorem Channel.halt_empty (ch : Channel) : ch.halt.tagsHeld = [] ∧ ch.halt.formed = none := ⟨rfl, rfl⟩

/-- A channel that takes the loss of the D port ends without tags; the other channel is as before. -/
theorem State.loseChannel_channels (c : Fin 2) (s : State) (law : (s.channels[c]).heldLaw) :
    (∀ d, d ≠ c → (s.loseChannel c).channels[d] = s.channels[d]) ∧
      ((s.loseChannel c).channels[c]).tagsHeld = [] ∧ ((s.loseChannel c).channels[c]).formed = none := by
  obtain ⟨-, still, -, -⟩ := law
  unfold State.loseChannel
  dsimp only
  split
  · rw [State.haltNow_frame]
    exact ⟨fun d other => by rw [getElem_set_fin, if_neg (Ne.symm other)], by rw [getElem_set_fin, if_pos rfl]; exact Channel.halt_empty _⟩
  next stopped =>
    split
    · rw [State.haltNow_frame]
      exact ⟨fun d other => by rw [getElem_set_fin, if_neg (Ne.symm other)], by rw [getElem_set_fin, if_pos rfl]; exact Channel.halt_empty _⟩
    next undrained =>
      obtain ⟨held, -, -, formed⟩ := still (by
        rw [Channel.running_iff] at stopped
        cases state : (s.channels[c]).state <;> simp_all [-Fin.getElem_fin])
      exact ⟨fun _ _ => rfl, held, formed⟩

theorem State.takeLoss_empties {s : State} (law : s.channelLaw) :
    (s.takeLoss .d).issueQueue = [] ∧
      ∀ c : Fin 2, ((s.takeLoss .d).channels[c]).tagsHeld = [] ∧ ((s.takeLoss .d).channels[c]).formed = none := by
  have before : (s.closeTags.emptyIssueQueue).channels = s.channels := by
    rw [State.emptyIssueQueue_frame, State.closeTags_frame]
  have after : (s.takeLoss .d).channels = (((s.closeTags.emptyIssueQueue).loseChannel 0).loseChannel 1).channels := by
    unfold State.takeLoss
    dsimp only
    rw [State.endAllInFlight_frame]
  constructor
  · unfold State.takeLoss
    dsimp only
    rw [State.endAllInFlight_frame]
    dsimp only
    rw [State.loseChannel_frame]
    dsimp only
    rw [State.loseChannel_frame]
    dsimp only
    rw [State.emptyIssueQueue_frame]
  · rw [after]
    obtain ⟨other0, empty0⟩ := State.loseChannel_channels 0 s.closeTags.emptyIssueQueue (by rw [before]; exact (law 0).1)
    obtain ⟨other1, empty1⟩ := State.loseChannel_channels 1 (s.closeTags.emptyIssueQueue.loseChannel 0)
      (by rw [other0 1 (by decide), before]; exact (law 1).1)
    intro c
    obtain rfl | rfl : c = 0 ∨ c = 1 := by omega
    · rw [other1 0 (by decide)]; exact empty0
    · exact empty1

theorem State.tagUseLaw_takeLoss {s : State} (channelLaw : s.channelLaw) : (s.takeLoss .d).tagUseLaw := by
  obtain ⟨queue, channels⟩ := State.takeLoss_empties channelLaw
  refine State.tagUseLaw_of_quiet (fun t => ?_) channels queue
  rw [s.takeLoss_pool.1, State.closeTags_tags]
  exact TagRecord.lost_ended _

theorem Move.tagUseLaw {wild : Prop} {s t : State} (move : Move wild s t) (tagLaw : s.tagLaw) (channelLaw : s.channelLaw)
    (law : s.tagUseLaw) : t.tagUseLaw := by
  have free_of_head {g : Fin 48} {rest : List (Fin 48)} (head : s.freeTags = g :: rest) : (s.tags[g]).state = .free := by
    have counted := (tagLaw g).1
    rw [head, List.count_cons_self] at counted
    refine Classical.byContradiction fun used => ?_
    rw [if_neg used] at counted
    omega
  have unheld {g : Fin 48} (free : (s.tags[g]).state = .free) (d : Fin 2) : ¬(s.tags[g]).heldBy d :=
    TagRecord.not_heldBy_of_state d (by rw [free]; decide) (by rw [free]; decide)
  have unqueued {g : Fin 48} (free : (s.tags[g]).state = .free) : ¬(s.tags[g]).inQueue := fun k => by
    rw [TagRecord.inQueue, free] at k
    exact nomatch k.1
  cases move with
  | aside h =>
    obtain ⟨tags, channels, queue⟩ := h.tagUse
    exact State.tagUseLaw_congr tags channels queue law
  | stages | records | begins | invalid | drains | rewrites | turns | popsReply => exact law
  | swaps =>
    exact State.tagUseLaw_congr (by rw [State.swapIfDrained_frame]) (by rw [State.swapIfDrained_frame])
      (by rw [State.swapIfDrained_frame]) law
  | forwards r kind p =>
    obtain ⟨held, queued⟩ := s.tagUseLaw_iff.mp law
    obtain ⟨-, same⟩ | ⟨g, rest, -, head, same⟩ := s.forward_cases r kind p <;> rw [same]
    · exact (State.tagUseLaw_iff _).mpr ⟨held, queued.append_untagged rfl⟩
    · have free := free_of_head head
      have owner : (forwardTag r kind p).owner ≠ .channel := by
        unfold forwardTag
        dsimp only
        split <;> decide
      exact (State.tagUseLaw_iff _).mpr ⟨fun d => Channel.holds_set_other (held d) (unheld free d)
        (TagRecord.not_heldBy_of_owner d owner), queued.append_tagged rfl (unqueued free) ⟨rfl, owner⟩ ⟨rfl, rfl, rfl⟩⟩
  | installs c e copyWrite change _ running vacant _ room suits =>
    have none : (s.channels[c]).formedTag = none := by rw [Channel.formedTag, vacant]; rfl
    obtain ⟨-, same⟩ | ⟨g, rest, tagged, head, same⟩ := s.install_cases c e copyWrite change <;> rw [same]
    · exact State.tagUseLaw_recast law c rfl rfl rfl (Channel.holds_congr
        ((List.append_nil _).trans (suits _).tagsHeld) none.symm (law.1 c))
    · have free := free_of_head head
      exact State.tagUseLaw_setChannel law c rfl rfl rfl
        (Channel.holds_add (law.1 c) none (unheld free c) (congrArg (· ++ [g]) (suits (some g)).tagsHeld) rfl ⟨rfl, rfl, rfl⟩)
        (fun d _ => unheld free d) (fun d other k => other k.2.2.symm) (unqueued free) (fun k => k.2 rfl)
  | takesTag c =>
    obtain same | ⟨f, g, rest, formed, lacks, head, same⟩ := s.channelTakesTag_cases c <;> rw [same]
    · exact law
    · have free := free_of_head head
      have none : (s.channels[c]).formedTag = none := by
        simp only [FormedRequest.lacksTag, Bool.and_eq_true, Option.isNone_iff_eq_none] at lacks
        rw [Channel.formedTag, formed]
        exact lacks.2
      exact State.tagUseLaw_setChannel law c rfl rfl rfl
        (Channel.holds_add (law.1 c) none (unheld free c) rfl rfl ⟨rfl, rfl, rfl⟩) (fun d _ => unheld free d)
        (fun d other k => other k.2.2.symm) (unqueued free) (fun k => k.2 rfl)
  | recasts c ch recast =>
    exact State.tagUseLaw_recast law c rfl rfl rfl (recast.holds (channelLaw c) (law.1 c))
  | stops c cause index address => exact State.tagUseLaw_enterDrain law c cause index address
  | grantsQueue e rest head aside =>
    obtain ⟨tags, channels, queue⟩ := aside.tagUse
    exact State.tagUseLaw_grantsQueue law head tags channels queue
  | grantsChannel c f formed ready aside =>
    obtain ⟨tags, channels, queue⟩ := aside.tagUse
    exact State.tagUseLaw_grantsChannel law formed tags channels queue
  | frees g used issued other =>
    obtain ⟨channels, queue⟩ := s.freeTag_keeps g
    obtain ⟨issued', waiting'⟩ := (s.tags[g]).freed_ended
    refine State.tagUseLaw_setTag law (State.freeTag_pool used).1 channels queue (fun d k => ?_)
      (fun d => TagRecord.not_heldBy_of_state d issued' waiting') (fun k => issued k.1) (fun k => issued' k.1)
    by_cases waiting : (s.tags[g]).state = .waiting
    · exact other waiting k.2.1
    · exact TagRecord.not_heldBy_of_state d issued waiting k
  | expires g other =>
    by_cases waiting : (s.tags[g]).state = .waiting
    · obtain ⟨channels, queue⟩ := s.expireTag_keeps g
      exact State.tagUseLaw_setTag law (State.expireTag_pool waiting).1 channels queue
        (fun d => TagRecord.not_heldBy_of_owner d other) (fun d => TagRecord.not_heldBy_of_owner d other)
        (fun k => by rw [TagRecord.inQueue, waiting] at k; exact nomatch k.1) (fun k => nomatch k.1)
    · rw [State.expireTag_of_not_waiting waiting]; exact law
  | answers g waiting owner =>
    obtain ⟨channels, queue⟩ := s.freeTag_keeps g
    exact State.tagUseLaw_endTag law waiting owner rfl (s.tags[g]).freed_ended
      (State.freeTag_pool (by rw [waiting]; decide)).1 channels queue
  | lapses g waiting owner aside =>
    obtain ⟨channels, queue⟩ := s.expireTag_keeps g
    obtain ⟨tags', channels', queue'⟩ := aside.tagUse
    exact State.tagUseLaw_endTag law waiting owner rfl (TagRecord.expire_ended _ _)
      (tags'.trans (State.expireTag_pool waiting).1) (channels'.trans channels) (queue'.trans queue)
  | flushes q =>
    exact State.tagUseLaw_flush law q (State.flush_pool s.issueQueue _ q _).1 (State.flush_channels _ _ _ _)
      (State.flush_issueQueue _ _ _ _)
  | loses => exact State.tagUseLaw_takeLoss channelLaw
  | restarts p => cases p <;> exact law

theorem Deed.tagUseLaw {wild : Prop} {s t : State} (deed : Deed wild s t) (tagLaw : s.tagLaw) (channelLaw : s.channelLaw)
    (law : s.tagUseLaw) : t.tagUseLaw := by
  cases deed with
  | move h => exact h.tagUseLaw tagLaw channelLaw law
  | reply r =>
    exact State.tagUseLaw_congr (by rw [State.placeReply_frame]) (by rw [State.placeReply_frame])
      (by rw [State.placeReply_frame]) law

theorem Whole.tagUseLaw {s t : State} (whole : Whole s t) (law : s.tagUseLaw) : t.tagUseLaw := by
  cases whole with
  | powersOn => exact State.reset_tagUseLaw
  | startsUp u => rw [State.startUp_frame]; exact State.reset_tagUseLaw
  | gathers | goodImage => exact law
  | badImage words cause => rw [State.failLoad_frame]; exact law
  | badBank i cause other _ loading =>
    rw [State.validationFails_of_loading i cause other loading, State.failLoad_frame]
    exact law
  | comesUp p => rw [State.grantAfterLoading_frame]; cases p <;> exact law

theorem State.tagUseLaw_tick {s : State} (law : s.tagUseLaw) : s.tick.tagUseLaw := by
  obtain same | ⟨now, same⟩ := s.tick_cases <;> rw [same]
  · exact law
  · have marked (r : TagRecord) : ∃ b, r.tick now = { r with reached := b } := by
      unfold TagRecord.tick
      split
      · exact ⟨_, rfl⟩
      · exact ⟨r.reached, rfl⟩
    obtain ⟨held, once, queued, names⟩ := s.tagUseLaw_iff.mp law
    rw [State.tagUseLaw_iff]
    refine ⟨fun c => ⟨(held c).1, fun t => ?_⟩, once, fun t => ?_, fun e mem t tag => ?_⟩ <;>
      rw [mapTable_getElem] <;> obtain ⟨b, same⟩ := marked s.tags[t] <;> rw [same]
    · exact (held c).2 t
    · exact queued t
    · exact names e mem t tag

/-- The laws that hold together with that of tag use. -/
structure State.useLaws (s : State) : Prop where
  tag : s.tagLaw
  channel : s.channelLaw
  use : s.tagUseLaw

/-- Settles O10: a tag changes hands only together with its record. -/
theorem tagUseLawKept : Obligations.TagUseLawKept := by
  intro s t tag channel use next
  exact (law_kept_of_step (P := State.useLaws) (fun _ ⟨tag, channel, use⟩ => ⟨tag, channel, use⟩)
    (fun _ _ deed ⟨tag, channel, use⟩ => ⟨deed.tagLaw tag, deed.channelLaw channel, deed.tagUseLaw tag channel use⟩)
    (fun _ event => ⟨event.tagLaw tag, event.channelLaw channel, event.tagUseLaw use⟩)
    (fun ⟨tag, channel, use⟩ => ⟨State.tagLaw_tick tag, State.channelLaw_tick channel, State.tagUseLaw_tick use⟩)
    ⟨tag, channel, use⟩ next).use

end Sys2Proof.Machine

/-! The law of the outstanding counts (R35): each is the number of tags its requester is owed. -/

namespace Sys2Proof.Machine

/-! ### Counting over a table -/

/-- A list without repetition is one of its members and the others. -/
theorem countP_of_mem {α : Type} [DecidableEq α] {l : List α} {a : α} (mem : a ∈ l) (p : α → Bool) :
    l.countP p = (l.erase a).countP p + (p a).toNat := by
  rw [(List.perm_cons_erase mem).countP_eq, List.countP_cons]
  cases p a <;> rfl

/-- Of two counts over a table that differ in one place. -/
theorem countP_finRange_update {n : Nat} {p q : Fin n → Bool} (i : Fin n) (same : ∀ j, j ≠ i → q j = p j) :
    (List.finRange n).countP q + (p i).toNat = (List.finRange n).countP p + (q i).toNat := by
  have rest : ((List.finRange n).erase i).countP q = ((List.finRange n).erase i).countP p := by
    refine List.countP_congr fun j mem => ?_
    rw [same j ((List.nodup_finRange n).mem_erase_iff.mp mem).1]
  rw [countP_of_mem (List.mem_finRange i) q, countP_of_mem (List.mem_finRange i) p, rest]
  omega

/-! ### What a tag owes -/

/-- A tag is owed to requester `q` (R35). -/
def TagRecord.owesTo (q : Fin 16) (r : TagRecord) : Bool := r.owes && r.ownerRequester == q

theorem TagRecord.not_owesTo_of_state {r : TagRecord} (q : Fin 16) (h : r.state = .free ∨ r.state = .expired) :
    r.owesTo q = false := by
  unfold TagRecord.owesTo TagRecord.owes
  obtain state | state := h <;> simp [state]

theorem TagRecord.not_owesTo_of_owner {r : TagRecord} (q : Fin 16) (h : r.owner ≠ .requester) : r.owesTo q = false := by
  unfold TagRecord.owesTo TagRecord.owes
  simp [h]

theorem TagRecord.owesTo_of_state {r : TagRecord} (q : Fin 16)
    (h : r.state = .queued ∨ r.state = .waiting ∨ r.state = .closing) :
    r.owesTo q = (r.owner == .requester && r.ownerRequester == q) := by
  unfold TagRecord.owesTo TagRecord.owes
  obtain state | state | state := h <;> simp [state]

theorem TagRecord.owesTo_of_states {r new : TagRecord} (q : Fin 16) (owner : new.owner = r.owner)
    (requester : new.ownerRequester = r.ownerRequester)
    (before : r.state = .queued ∨ r.state = .waiting ∨ r.state = .closing)
    (after : new.state = .queued ∨ new.state = .waiting ∨ new.state = .closing) : new.owesTo q = r.owesTo q := by
  rw [TagRecord.owesTo_of_state q before, TagRecord.owesTo_of_state q after, owner, requester]

theorem State.tagsOwed_eq (s : State) (q : Fin 16) :
    s.tagsOwed q = (List.finRange 48).countP (fun t => (s.tags[t]).owesTo q) := rfl

theorem State.tagsOwed_set {s t : State} {i : Fin 48} {r : TagRecord} (tags : t.tags = s.tags.set i r) (q : Fin 16) :
    t.tagsOwed q + ((s.tags[i]).owesTo q).toNat = s.tagsOwed q + (r.owesTo q).toNat := by
  have counted := countP_finRange_update (p := fun j => (s.tags[j]).owesTo q) (q := fun j => (t.tags[j]).owesTo q) i
    (fun j other => by rw [tags, getElem_set_fin, if_neg (Ne.symm other)])
  have new : t.tags[i] = r := by rw [tags, getElem_set_fin, if_pos rfl]
  rwa [new] at counted

theorem State.tagsOwed_congr {s t : State} {q : Fin 16}
    (same : ∀ i : Fin 48, (t.tags[i]).owesTo q = (s.tags[i]).owesTo q) : t.tagsOwed q = s.tagsOwed q := by
  rw [State.tagsOwed_eq, State.tagsOwed_eq]
  exact List.countP_congr fun i _ => by rw [same i]

/-! ### The law -/

theorem State.outstandingLaw_congr {s t : State} (tags : t.tags = s.tags) (requesters : t.requesters = s.requesters)
    (law : s.outstandingLaw) : t.outstandingLaw := by
  unfold State.outstandingLaw State.tagsOwed at *
  rwa [tags, requesters]

theorem State.outstandingLaw_of_owed {s t : State} (law : s.outstandingLaw) (owed : ∀ q, t.tagsOwed q = s.tagsOwed q)
    (requesters : t.requesters = s.requesters) : t.outstandingLaw := by
  intro q
  rw [owed, requesters]
  exact law q

/-- One tag changes that nobody is owed, before or after. -/
theorem State.outstandingLaw_setTag {s t : State} (law : s.outstandingLaw) {i : Fin 48} {r : TagRecord}
    (tags : t.tags = s.tags.set i r) (requesters : t.requesters = s.requesters)
    (same : ∀ q, r.owesTo q = (s.tags[i]).owesTo q) : t.outstandingLaw := by
  refine State.outstandingLaw_of_owed law (fun q => ?_) requesters
  have counted := State.tagsOwed_set tags q
  rw [same] at counted
  omega

theorem State.endCounts_requesters (r : TagRecord) (s : State) (q : Fin 16) :
    ((s.endCounts r).requesters[q]).outstanding = (s.requesters[q]).outstanding - (r.owesTo q).toNat ∧
      ((s.endCounts r).requesters[q]).limit = (s.requesters[q]).limit := by
  have lowered : (s.endCounts r).requesters =
      (if r.owes then s.lowerOutstanding r.ownerRequester else s).requesters := by
    unfold State.endCounts
    dsimp only
    split
    · rw [State.fall_frame]
    · rfl
  rw [lowered, TagRecord.owesTo]
  cases owes : r.owes with
  | false => exact ⟨rfl, rfl⟩
  | true =>
    rw [if_pos rfl, State.lowerOutstanding, State.setRequester_requesters, getElem_set_fin, Bool.true_and]
    split
    next same => subst same; simp
    next other => rw [beq_false_of_ne other]; exact ⟨rfl, rfl⟩

/-- A tag ends, and its requester is owed one less. -/
theorem State.outstandingLaw_endCounts {s u : State} (law : s.outstandingLaw) {i : Fin 48} {r : TagRecord}
    (tags : u.tags = s.tags.set i r) (requesters : u.requesters = s.requesters)
    (after : r.state = .free ∨ r.state = .expired) : (u.endCounts (s.tags[i])).outstandingLaw := by
  intro q
  obtain ⟨counted, bound, low, high⟩ := law q
  obtain ⟨outstanding, limit⟩ := u.endCounts_requesters s.tags[i] q
  have changed : (u.endCounts s.tags[i]).tagsOwed q + ((s.tags[i]).owesTo q).toNat = s.tagsOwed q + 0 := by
    have h := State.tagsOwed_set (s := s) (t := u.endCounts s.tags[i]) (i := i) (r := r)
      (by rw [State.endCounts_frame]; exact tags) q
    rwa [TagRecord.not_owesTo_of_state q after] at h
  rw [outstanding, limit, requesters]
  omega

theorem State.outstandingLaw_freeTag {s : State} (law : s.outstandingLaw) (t : Fin 48) : (s.freeTag t).outstandingLaw := by
  unfold State.freeTag
  split
  · exact law
  · exact State.outstandingLaw_endCounts law (u := s.putFree t) rfl rfl (.inl rfl)

theorem State.outstandingLaw_expireTag {s : State} (law : s.outstandingLaw) (t : Fin 48) :
    (s.expireTag t).outstandingLaw := by
  unfold State.expireTag
  split
  · exact State.outstandingLaw_endCounts law (u := s.setTag t _) rfl rfl (.inr rfl)
  · exact law

theorem State.outstandingLaw_settleIssue {s : State} (law : s.outstandingLaw) (e : IssueEntry) :
    (s.settleIssue e).outstandingLaw := by
  unfold State.settleIssue
  split
  next t _ =>
    by_cases queued : (s.tags[t]).state = .queued
    · rw [State.issueTag_of_queued queued]
      exact State.outstandingLaw_setTag law rfl rfl
        (fun q => TagRecord.owesTo_of_states q rfl rfl (.inl queued) (.inr (.inl rfl)))
    · rw [State.issueTag_of_not_queued queued]; exact law
  · exact State.outstandingLaw_congr (by rw [State.fall_frame]) (by rw [State.fall_frame]) law

theorem State.outstandingLaw_flush {s : State} (law : s.outstandingLaw) (queue removed : List IssueEntry) (q : Fin 16) :
    (removed.foldl State.flushUntagged ((List.finRange 48).foldl (State.flushTag queue q) s)).outstandingLaw := by
  refine kept_foldl (P := State.outstandingLaw) (fun u e law => ?_) _
    (kept_foldl (P := State.outstandingLaw) (fun u t law => ?_) _ law)
  · unfold State.flushUntagged
    split
    · exact State.outstandingLaw_congr (by rw [State.fall_frame]) (by rw [State.fall_frame]) law
    · exact law
  · unfold State.flushTag
    split
    · exact State.outstandingLaw_freeTag law t
    · exact law

theorem TagRecord.owesTo_lost (r : TagRecord) (q : Fin 16) : r.lost.owesTo q = r.owesTo q := by
  unfold TagRecord.lost
  split
  next owed =>
    have state : r.state = .queued ∨ r.state = .waiting := by simpa [TagRecord.inFlight] using owed.1
    exact TagRecord.owesTo_of_states q rfl rfl (state.imp_right .inl) (.inr (.inr rfl))
  next other =>
    split
    next ends =>
      rw [TagRecord.not_owesTo_of_state q (.inl rfl)]
      obtain inFlight | expired := ends
      · exact (TagRecord.not_owesTo_of_owner q (fun owner => other ⟨inFlight, owner⟩)).symm
      · exact (TagRecord.not_owesTo_of_state q (.inr expired)).symm
    · rfl

theorem State.outstandingLaw_takeLoss {s : State} (law : s.outstandingLaw) : (s.takeLoss .d).outstandingLaw := by
  refine State.outstandingLaw_of_owed law (fun q => State.tagsOwed_congr fun i => ?_) (State.takeLoss_requesters s)
  rw [s.takeLoss_pool.1, State.closeTags_tags, TagRecord.owesTo_lost]

theorem State.outstandingLaw_haltIfEmpty {s : State} (law : s.outstandingLaw) (c : Fin 2) :
    (s.haltIfEmpty c).outstandingLaw := by
  rw [State.haltIfEmpty_frame]; exact law

theorem State.Aside.outstandingLaw {s t : State} (h : s.Aside t) (law : s.outstandingLaw) : t.outstandingLaw :=
  State.outstandingLaw_congr (by rw [h.frame]) (by rw [h.frame]) law

theorem State.tagLaw.free_of_head {s : State} (law : s.tagLaw) {t : Fin 48} {rest : List (Fin 48)}
    (head : s.freeTags = t :: rest) : (s.tags[t]).state = .free := by
  have counted := (law t).1
  rw [head, List.count_cons_self] at counted
  refine Classical.byContradiction fun used => ?_
  rw [if_neg used] at counted
  omega

theorem State.outstandingLaw_channelTag {s t : State} (tagLaw : s.tagLaw) (law : s.outstandingLaw) {g : Fin 48}
    {rest : List (Fin 48)} (head : s.freeTags = g :: rest) (c : Fin 2) (e : IssueEntry)
    (tags : t.tags = s.tags.set g (channelTag c e)) (requesters : t.requesters = s.requesters) : t.outstandingLaw :=
  State.outstandingLaw_setTag law tags requesters fun q => by
    rw [TagRecord.not_owesTo_of_owner q (r := channelTag c e) (by simp [channelTag]),
      TagRecord.not_owesTo_of_state q (.inl (tagLaw.free_of_head head))]

/-- A request that is not a PW raises the count of its requester with its tag; a PW raises none (R35, R44). -/
theorem State.outstandingLaw_forward {s : State} (tagLaw : s.tagLaw) (law : s.outstandingLaw) (r : Request)
    (kind : RequestKind) (p : Passage) (tag : p.kind ≠ .pw → s.freeTags ≠ []) (same : kind ≠ .pw → p.kind = kind)
    (limit : kind ≠ .pw → (s.requesters[r.requester]).outstanding < (s.requesters[r.requester]).limit) :
    (s.forward r kind p).outstandingLaw := by
  have requesters (q : Fin 16) (u : State) (counted : u.requesters = s.requesters.set r.requester
      ((s.requesters[r.requester]).forwarded kind)) :
      (u.requesters[q]).limit = (s.requesters[q]).limit ∧ (u.requesters[q]).outstanding =
        (s.requesters[q]).outstanding + (kind != .pw && r.requester == q).toNat := by
    rw [counted, getElem_set_fin]
    split
    next own => subst own; cases kind <;> simp [RequesterRecord.forwarded] <;> rfl
    next other => simp [other]
  obtain ⟨untagged, forwarded⟩ | ⟨g, rest, -, head, forwarded⟩ := s.forward_cases r kind p <;> intro q <;>
    obtain ⟨counted, bound, low, high⟩ := law q <;>
    obtain ⟨limits, outstanding⟩ := requesters q (s.forward r kind p) (by rw [forwarded]; rfl)
  · have posted : kind = .pw := by
      refine Classical.byContradiction fun other => ?_
      obtain posted | empty := untagged
      · exact other ((same other).symm.trans posted)
      · exact tag (fun posted => other ((same other).symm.trans posted)) empty
    have owed : (s.forward r kind p).tagsOwed q = s.tagsOwed q := by
      rw [forwarded]; rfl
    rw [limits, outstanding, owed, posted]
    exact ⟨counted, bound, low, high⟩
  · have owed := State.tagsOwed_set (s := s) (t := s.forward r kind p) (i := g) (r := forwardTag r kind p)
      (by rw [forwarded]) q
    have owes : (forwardTag r kind p).owesTo q = (kind != .pw && r.requester == q) := by
      cases kind <;> simp [TagRecord.owesTo, TagRecord.owes, forwardTag]
    rw [TagRecord.not_owesTo_of_state q (.inl (tagLaw.free_of_head head)), owes] at owed
    rw [limits, outstanding]
    have room : (kind != .pw && r.requester == q) = true → (s.requesters[q]).outstanding < (s.requesters[q]).limit := by
      intro own
      simp only [Bool.and_eq_true, bne_iff_ne, beq_iff_eq] at own
      obtain ⟨other, rfl⟩ := own
      exact limit other
    simp only [Bool.toNat_false] at owed
    cases own : (kind != .pw && r.requester == q) with
    | false => rw [own] at owed; simp only [Bool.toNat_false] at owed ⊢; omega
    | true =>
      have := room own
      rw [own] at owed
      simp only [Bool.toNat_true] at owed ⊢
      omega

theorem Move.outstandingLaw {wild : Prop} {s t : State} (move : Move wild s t) (tagLaw : s.tagLaw)
    (law : s.outstandingLaw) : t.outstandingLaw := by
  cases move with
  | aside h => exact h.outstandingLaw law
  | stages | records | begins | invalid | drains | turns | recasts | popsReply => exact law
  | rewrites v kept =>
    intro q
    obtain ⟨counted, bound, low, high⟩ := law q
    obtain ⟨low', high'⟩ := kept.limit q low high
    exact ⟨(kept.outstanding q).trans counted, Nat.le_trans (Nat.le_of_eq (kept.outstanding q)) bound, low', high'⟩
  | swaps =>
    exact State.outstandingLaw_congr (by rw [State.swapIfDrained_frame]) (by rw [State.swapIfDrained_frame]) law
  | forwards r kind p _ _ tag same limit => exact State.outstandingLaw_forward tagLaw law r kind p tag same limit
  | installs c e copyWrite change =>
    obtain ⟨-, same⟩ | ⟨t, rest, -, head, same⟩ := s.install_cases c e copyWrite change <;> rw [same]
    · exact law
    · exact State.outstandingLaw_channelTag tagLaw law head c e rfl rfl
  | takesTag c =>
    obtain same | ⟨f, t, rest, -, -, head, same⟩ := s.channelTakesTag_cases c <;> rw [same]
    · exact law
    · exact State.outstandingLaw_channelTag tagLaw law head c f.entry rfl rfl
  | stops c cause index address =>
    exact State.outstandingLaw_congr (by rw [State.enterDrain_frame]) (by rw [State.enterDrain_frame]) law
  | grantsQueue e rest head aside => exact State.outstandingLaw_settleIssue (aside.outstandingLaw law) e
  | grantsChannel c f formed ready aside => exact State.outstandingLaw_settleIssue (aside.outstandingLaw law) f.entry
  | frees t => exact State.outstandingLaw_freeTag law t
  | expires t => exact State.outstandingLaw_expireTag law t
  | answers t =>
    have freed := State.outstandingLaw_freeTag law t
    exact State.outstandingLaw_haltIfEmpty (s := State.setChannel _ _ (s.freeTag t)) freed _
  | @lapses u t _ _ aside =>
    have expired : u.outstandingLaw := aside.outstandingLaw (State.outstandingLaw_expireTag law t)
    exact State.outstandingLaw_haltIfEmpty (s := State.setChannel _ _ u) expired _
  | flushes q =>
    exact State.outstandingLaw_flush
      (s := { s with issueQueue := s.issueQueue.filter (fun e => e.requester != q) }) law _ _ q
  | loses => exact State.outstandingLaw_takeLoss law
  | restarts p => cases p <;> exact law

theorem Deed.outstandingLaw {wild : Prop} {s t : State} (deed : Deed wild s t) (tagLaw : s.tagLaw)
    (law : s.outstandingLaw) : t.outstandingLaw := by
  cases deed with
  | move h => exact h.outstandingLaw tagLaw law
  | reply r => exact State.outstandingLaw_congr (by rw [State.placeReply_frame]) (by rw [State.placeReply_frame]) law

theorem safeRequesters_counts : ∀ q : Fin 16, (safeRequesters[q]).outstanding = 0 ∧ (safeRequesters[q]).limit = 4 := by
  decide

/-- With every tag FREE the requester table of a failed load keeps the law. -/
theorem State.outstandingLaw_safe {s t : State} (free : ∀ i : Fin 48, (s.tags[i]).state = .free)
    (tags : t.tags = s.tags) (requesters : t.requesters = safeRequesters) : t.outstandingLaw := by
  intro q
  have none : t.tagsOwed q = 0 := List.countP_eq_zero.mpr fun i _ => by
    rw [tags, ← Bool.not_eq_false]
    exact not_not_intro (TagRecord.not_owesTo_of_state q (.inl (free i)))
  obtain ⟨outstanding, limit⟩ := safeRequesters_counts q
  rw [none, requesters, outstanding, limit]
  decide

theorem writtenLimit_bounds (value : Word) : 1 ≤ writtenLimit value ∧ writtenLimit value ≤ 16 := by
  unfold writtenLimit
  omega

theorem Whole.outstandingLaw {s t : State} (whole : Whole s t) (loadingLaw : s.loadingLaw) (law : s.outstandingLaw) :
    t.outstandingLaw := by
  cases whole with
  | powersOn => exact State.reset_outstandingLaw
  | startsUp u => rw [State.startUp_frame]; exact State.reset_outstandingLaw
  | gathers => exact law
  | goodImage words w =>
    intro q
    obtain ⟨counted, bound, -, -⟩ := law q
    simp only [State.loadImage, mapTableIndexed_getElem]
    obtain ⟨low, high⟩ := writtenLimit_bounds (imageWordAt (words ++ [w]) (3 + q))
    exact ⟨counted, bound, low, high⟩
  | badImage words cause reading =>
    obtain ⟨free, -⟩ := loadingLaw.2.2.1 (loadingLaw.1 (by rw [reading]; rfl)).1
    rw [State.failLoad_frame]
    exact State.outstandingLaw_safe free rfl rfl
  | badBank i cause other _ loading =>
    rw [State.validationFails_of_loading i cause other loading, State.failLoad_frame]
    exact State.outstandingLaw_safe (loadingLaw.2.2.1 loading).1 rfl rfl
  | comesUp p => rw [State.grantAfterLoading_frame]; cases p <;> exact law

theorem State.outstandingLaw_tick {s : State} (law : s.outstandingLaw) : s.tick.outstandingLaw := by
  obtain same | ⟨now, same⟩ := s.tick_cases <;> rw [same]
  · exact law
  · refine State.outstandingLaw_of_owed law (fun q => State.tagsOwed_congr fun i => ?_) rfl
    rw [mapTable_getElem]
    unfold TagRecord.tick
    split <;> rfl

/-- Settles O12: a count rises and falls with the tag it stands for. -/
theorem outstandingLawKept : Obligations.OutstandingLawKept := by
  intro s t tag loading law next
  exact (law_kept_of_step (P := fun u => u.tagLaw ∧ u.outstandingLaw) (fun _ => id)
    (fun _ _ deed laws => ⟨deed.tagLaw laws.1, deed.outstandingLaw laws.1 laws.2⟩)
    (fun _ event => ⟨event.tagLaw tag, event.outstandingLaw loading law⟩)
    (fun laws => ⟨State.tagLaw_tick laws.1, State.outstandingLaw_tick laws.2⟩) ⟨tag, law⟩ next).2

end Sys2Proof.Machine

/-! The law of the in-flight account (R11, R12, R13, and the law held by the drain, R18). -/

namespace Sys2Proof.Machine

/-! ### The items, by the place that each stands in -/

/-- The item that counts through a tag. -/
def TagRecord.items (r : TagRecord) : List Item := if r.inFlight then [(r.index, r.generation)] else []

/-- The item that counts through an entry without a tag. -/
def IssueEntry.items (e : IssueEntry) : List Item := if e.tag.isNone then [(e.index, e.generation)] else []

/-- The item that counts through a formed request without a tag. -/
def Channel.items (ch : Channel) : List Item :=
  match ch.formed with
  | some f => f.entry.items
  | none => []

/-- The items of a queue. -/
def queueItems (queue : List IssueEntry) : List Item := queue.flatMap IssueEntry.items

/-- The items of the tags. -/
def tagItems (v : Vector TagRecord 48) : List Item := (List.finRange 48).flatMap fun t => (v[t]).items

/-- The items of the channels. -/
def channelItems (v : Vector Channel 2) : List Item := (List.finRange 2).flatMap fun c => (v[c]).items

/-- The items of all places. -/
def placedItems (tags : Vector TagRecord 48) (queue : List IssueEntry) (channels : Vector Channel 2) : List Item :=
  tagItems tags ++ queueItems queue ++ channelItems channels

theorem map_filter_eq_flatMap {α β : Type} (p : α → Bool) (f : α → β) (l : List α) :
    (l.filter p).map f = l.flatMap (fun x => if p x then [f x] else []) := by
  induction l with
  | nil => rfl
  | cons x rest step =>
    rw [List.flatMap_cons, ← step, List.filter_cons]
    split <;> rfl

theorem flatMap_congr_left {α β : Type} {f g : α → List β} {l : List α} (same : ∀ x ∈ l, f x = g x) :
    l.flatMap f = l.flatMap g := by
  rw [List.flatMap, List.flatMap, List.map_congr_left same]

theorem filterMap_eq_flatMap {α β : Type} (f : α → Option β) (l : List α) :
    l.filterMap f = l.flatMap (fun x => (f x).toList) := by
  induction l with
  | nil => rfl
  | cons x rest step =>
    rw [List.flatMap_cons, ← step, List.filterMap_cons]
    cases f x <;> rfl

theorem Channel.toList_eq_items (ch : Channel) :
    ((ch.formed.filter (fun f => f.entry.tag.isNone)).map (fun f => (f.entry.index, f.entry.generation))).toList =
      ch.items := by
  unfold Channel.items IssueEntry.items
  cases ch.formed with
  | none => rfl
  | some f => cases tag : f.entry.tag <;> simp [Option.filter, tag]

theorem State.items_eq (s : State) : s.items = placedItems s.tags s.issueQueue s.channels := by
  have formed : s.formedItems = channelItems s.channels := by
    rw [State.formedItems, filterMap_eq_flatMap]
    exact flatMap_congr_left fun c _ => (s.channels[c]).toList_eq_items
  rw [State.items, formed, State.taggedItems, map_filter_eq_flatMap, State.postedItems, map_filter_eq_flatMap]
  rfl

/-- What changes in one place is exchanged for what stood there. -/
theorem flatMap_exchange {n : Nat} {f g : Fin n → List Item} (i : Fin n) (others : ∀ j, j ≠ i → f j = g j) :
    ((List.finRange n).flatMap f ++ g i).Perm ((List.finRange n).flatMap g ++ f i) := by
  obtain ⟨before, after, parts⟩ := List.append_of_mem (List.mem_finRange i)
  have once := List.nodup_finRange n
  rw [parts, List.nodup_append] at once
  obtain ⟨-, onceAfter, apart⟩ := once
  obtain ⟨fresh, -⟩ := List.nodup_cons.mp onceAfter
  have same : before.flatMap f = before.flatMap g := flatMap_congr_left fun j mem =>
    others j fun here => apart j mem i List.mem_cons_self here
  have same' : after.flatMap f = after.flatMap g := flatMap_congr_left fun j mem =>
    others j fun here => fresh (here ▸ mem)
  refine List.perm_iff_count.mpr fun item => ?_
  rw [parts, List.flatMap_append, List.flatMap_append, List.flatMap_cons, List.flatMap_cons, same, same']
  simp only [List.count_append]
  omega

theorem tagItems_set (v : Vector TagRecord 48) (i : Fin 48) (r : TagRecord) :
    (tagItems v ++ r.items).Perm (tagItems (v.set i r) ++ (v[i]).items) := by
  have exchange := flatMap_exchange (f := fun t => (v[t]).items) (g := fun t => ((v.set i r)[t]).items) i
    fun j other => by rw [getElem_set_fin, if_neg (Ne.symm other)]
  rwa [getElem_set_fin, if_pos rfl] at exchange

theorem channelItems_set (v : Vector Channel 2) (c : Fin 2) (ch : Channel) :
    (channelItems v ++ ch.items).Perm (channelItems (v.set c ch) ++ (v[c]).items) := by
  have exchange := flatMap_exchange (f := fun d => (v[d]).items) (g := fun d => ((v.set c ch)[d]).items) c
    fun j other => by rw [getElem_set_fin, if_neg (Ne.symm other)]
  rwa [getElem_set_fin, if_pos rfl] at exchange

/-- What a tag no longer counts stands beside the places. -/
theorem placedItems_perm_of_tags {v w : Vector TagRecord 48} {items : List Item} (exchange : (tagItems v).Perm (tagItems w ++ items))
    (extra : List Item) {queue : List IssueEntry} {channels : Vector Channel 2} :
    (extra ++ placedItems v queue channels).Perm (items ++ (extra ++ placedItems w queue channels)) := by
  refine List.perm_iff_count.mpr fun i => ?_
  have counted := exchange.count_eq i
  simp only [placedItems, List.count_append] at counted ⊢
  omega

theorem placedItems_perm_of_same {v w : Vector TagRecord 48} (same : (tagItems v).Perm (tagItems w))
    {queue : List IssueEntry} {channels : Vector Channel 2} :
    (placedItems v queue channels).Perm (placedItems w queue channels) :=
  (same.append_right _).append_right _

/-! ### The account of a collection of items -/

/-- The counts of the gate are those of these items. -/
structure State.tallied (s : State) (m : List Item) : Prop where
  index : ∀ r : Fin 64, (s.regions[r]).inFlight = m.countP (fun i => i.1 == r)
  generations : ∀ i ∈ m, i.2 = s.generation ∨ i.2 = s.generation - 1#8
  current : s.currentTotal = m.countP (fun i => i.2 == s.generation)
  previous : s.previousTotal = m.countP (fun i => i.2 == s.generation - 1#8)

/-- The order of the items does not matter. -/
theorem State.tallied_perm {s : State} {l m : List Item} (h : s.tallied l) (same : l.Perm m) : s.tallied m where
  index r := (h.index r).trans (same.countP_eq _)
  generations i mem := h.generations i (same.mem_iff.mpr mem)
  current := h.current.trans (same.countP_eq _)
  previous := h.previous.trans (same.countP_eq _)

theorem State.accountLaw_iff (s : State) : s.accountLaw ↔ s.tallied (placedItems s.tags s.issueQueue s.channels) := by
  rw [← State.items_eq]
  exact ⟨fun ⟨index, generations, current, previous⟩ => ⟨index, generations, current, previous⟩,
    fun ⟨index, generations, current, previous⟩ => ⟨index, generations, current, previous⟩⟩

theorem State.tallied_congr {s t : State} {m : List Item}
    (regions : ∀ r : Fin 64, (t.regions[r]).inFlight = (s.regions[r]).inFlight) (generation : t.generation = s.generation)
    (current : t.currentTotal = s.currentTotal) (previous : t.previousTotal = s.previousTotal) (h : s.tallied m) :
    t.tallied m := by
  obtain ⟨index, generations, currents, previouses⟩ := h
  refine ⟨fun r => (regions r).trans (index r), ?_, ?_, ?_⟩
  · rwa [generation]
  · rwa [generation, current]
  · rwa [generation, previous]

/-- A rise counts one item of the current generation (R12, R13). -/
theorem State.tallied_rise {s : State} {m : List Item} (h : s.tallied m) (r : Fin 64) :
    (s.rise r).tallied ((r, s.generation) :: m) := by
  obtain ⟨index, generations, current, previous⟩ := h
  have differ : s.generation ≠ s.generation - 1#8 := by bv_omega
  refine ⟨fun j => ?_, fun i mem => ?_, ?_, ?_⟩
  · rw [List.countP_cons, ← index j]
    simp only [State.rise, State.setRegion_regions, getElem_set_fin, beq_iff_eq]
    split
    next same => subst same; rfl
    · rfl
  · obtain rfl | mem := List.mem_cons.mp mem
    · exact .inl rfl
    · exact generations i mem
  · exact (congrArg (· + 1) current).trans (List.countP_cons_of_pos (p := fun i : Item => i.2 == s.generation)
      (beq_self_eq_true s.generation)).symm
  · exact previous.trans (List.countP_cons_of_neg (p := fun i : Item => i.2 == s.generation - 1#8)
      (fun same => differ (beq_iff_eq.mp same))).symm

/-- A swap shifts the generations when no item of the previous one is left (R18). -/
theorem State.tallied_swapIfDrained {s : State} {m : List Item} (h : s.tallied m) : s.swapIfDrained.tallied m := by
  obtain ⟨-, drained, same⟩ | ⟨-, same⟩ := s.swapIfDrained_cases <;> rw [same]
  · obtain ⟨index, generations, current, previous⟩ := h
    have all : ∀ i ∈ m, i.2 = s.generation := fun i mem =>
      (generations i mem).resolve_right fun old =>
        List.countP_eq_zero.mp (previous.symm.trans drained) i mem (beq_iff_eq.mpr old)
    have before : s.generation + 1#8 - 1#8 = s.generation := by bv_omega
    have differ : s.generation ≠ s.generation + 1#8 := by bv_omega
    rw [State.swap_frame]
    refine ⟨index, fun i mem => .inr ((all i mem).trans before.symm), ?_, ?_⟩
    · exact (List.countP_eq_zero.mpr fun i mem same => differ ((all i mem).symm.trans (beq_iff_eq.mp same))).symm
    · dsimp only
      rw [before]
      exact current
  · exact h

/-- A fall ends one item (R12, R13). -/
theorem State.tallied_fall {s : State} {m : List Item} {r : Fin 64} {g : BitVec 8}
    (h : s.tallied ((r, g) :: m)) : (s.fall r g).tallied m := by
  obtain ⟨index, generations, current, previous⟩ := h
  have differ : s.generation ≠ s.generation - 1#8 := by bv_omega
  refine State.tallied_swapIfDrained ⟨fun j => ?_, fun i mem => ?_, ?_, ?_⟩
  · have counted := index j
    rw [List.countP_cons] at counted
    simp only [beq_iff_eq] at counted
    rw [State.fallTotal_frame, State.fallIndex_frame]
    simp only [getElem_set_fin]
    split
    next same => subst same; simp only [RegionStatus.fall]; rw [counted]; simp
    next other => rw [counted, if_neg other]; rfl
  · rw [State.fallTotal_frame, State.fallIndex_frame]
    exact generations i (List.mem_cons_of_mem _ mem)
  all_goals
    have kept : (s.fallIndex r).generation = s.generation ∧ (s.fallIndex r).currentTotal = s.currentTotal ∧
        (s.fallIndex r).previousTotal = s.previousTotal := by
      rw [State.fallIndex_frame]; exact ⟨rfl, rfl, rfl⟩
    obtain ⟨generation', current', previous'⟩ := kept
    rw [List.countP_cons] at current previous
    simp only [beq_iff_eq] at current previous
    unfold State.fallTotal
    simp only [generation', beq_iff_eq]
    obtain rfl | rfl := generations (r, g) List.mem_cons_self
    · simp only [if_true, previous', current', current, previous]
      simp [differ]
    · simp only [if_neg (Ne.symm differ), if_true, previous', current', current, previous]
      simp

/-- An item ends where it counts, and where it does not nothing changes. -/
theorem State.tallied_endCounts {s : State} {m : List Item} {r : TagRecord} (h : s.tallied (r.items ++ m)) :
    (s.endCounts r).tallied m := by
  have lowered : State.tallied (if r.owes then s.lowerOutstanding r.ownerRequester else s) (r.items ++ m) := by
    split
    · exact State.tallied_congr (s := s) (fun _ => rfl) rfl rfl rfl h
    · exact h
  unfold State.endCounts TagRecord.items at *
  dsimp only
  split
  next flying =>
    rw [if_pos flying] at lowered
    exact State.tallied_fall lowered
  next landed => rwa [if_neg landed, List.nil_append] at lowered

theorem TagRecord.items_of_ended {r : TagRecord} (h : r.state ≠ .queued ∧ r.state ≠ .waiting) : r.items = [] := by
  simp [TagRecord.items, TagRecord.inFlight, h.1, h.2]

/-- The account of a gate with some items besides its own. -/
def State.balanced (s : State) (extra : List Item) : Prop :=
  s.tallied (extra ++ placedItems s.tags s.issueQueue s.channels)

theorem State.balanced_zero (s : State) : s.balanced [] ↔ s.accountLaw := by
  rw [State.balanced, List.nil_append, State.accountLaw_iff]

/-! ### The operations -/

/-- A tag that is in use becomes FREE: its item ends. -/
theorem State.balanced_freeTag {s : State} {extra : List Item} (h : s.balanced extra) (t : Fin 48) :
    (s.freeTag t).balanced extra := by
  by_cases used : (s.tags[t]).state = .free
  · rw [State.freeTag, if_pos (by simpa using used)]; exact h
  · obtain ⟨channels, queue⟩ := s.freeTag_keeps t
    have exchange := tagItems_set s.tags t (s.tags[t]).freed
    rw [TagRecord.items_of_ended (TagRecord.freed_ended _), List.append_nil] at exchange
    rw [State.balanced, (State.freeTag_pool used).1, channels, queue]
    rw [State.freeTag, if_neg (by simpa using used)]
    exact State.tallied_endCounts (State.tallied_congr (s := s) (fun _ => rfl) rfl rfl rfl
      (State.tallied_perm h (placedItems_perm_of_tags exchange extra)))

theorem State.balanced_expireTag {s : State} {extra : List Item} (h : s.balanced extra) (t : Fin 48) :
    (s.expireTag t).balanced extra := by
  by_cases waiting : (s.tags[t]).state = .waiting
  · obtain ⟨channels, queue⟩ := s.expireTag_keeps t
    have exchange := tagItems_set s.tags t ((s.tags[t]).expire (s.timeBase + 4#32 * s.replyTimeout.setWidth 32))
    rw [TagRecord.items_of_ended (TagRecord.expire_ended _ _), List.append_nil] at exchange
    rw [State.balanced, (State.expireTag_pool waiting).1, channels, queue]
    rw [State.expireTag, if_pos (by simpa using waiting)]
    exact State.tallied_endCounts (State.tallied_congr (s := s) (fun _ => rfl) rfl rfl rfl
      (State.tallied_perm h (placedItems_perm_of_tags exchange extra)))
  · rw [State.expireTag_of_not_waiting waiting]; exact h

/-- One more item, not yet in its place, ends. -/
theorem State.balanced_fall {s : State} {extra : List Item} {r : Fin 64} {g : BitVec 8}
    (h : s.balanced ([(r, g)] ++ extra)) : (s.fall r g).balanced extra := by
  rw [State.balanced, List.append_assoc] at h
  have ended := State.tallied_fall h
  rw [State.balanced]
  rw [State.fall_frame] at ended ⊢
  exact ended

/-- The item of a formed request without a tag ends with the formation. -/
theorem State.tallied_dropFormed {s : State} {m : List Item} {ch : Channel} (h : s.tallied (ch.items ++ m)) :
    (s.dropFormed ch.formed).tallied m := by
  unfold Channel.items IssueEntry.items at h
  unfold State.dropFormed
  split
  next f formed =>
    simp only [formed] at h
    split
    next untagged => rw [if_pos untagged] at h; exact State.tallied_fall h
    next tagged => rwa [if_neg tagged, List.nil_append] at h
  next vacant => simpa [vacant] using h

/-- An issued entry whose place is empty already. -/
theorem State.balanced_settleIssue {s : State} {extra : List Item} {e : IssueEntry}
    (h : s.balanced (e.items ++ extra)) : (s.settleIssue e).balanced extra := by
  unfold State.settleIssue
  split
  next t tagged =>
    rw [IssueEntry.items, if_neg (by simp [tagged]), List.nil_append] at h
    by_cases queued : (s.tags[t]).state = .queued
    · have exchange := tagItems_set s.tags t ((s.tags[t]).issued (s.timeBase + s.replyTimeout.setWidth 32))
      have same : ((s.tags[t]).issued (s.timeBase + s.replyTimeout.setWidth 32)).items = (s.tags[t]).items := by
        simp [-Fin.getElem_fin, TagRecord.items, TagRecord.inFlight, TagRecord.issued, queued]
      rw [same] at exchange
      rw [State.issueTag_of_queued queued]
      exact State.tallied_congr (s := s) (fun _ => rfl) rfl rfl rfl (State.tallied_perm h
        (List.Perm.append_left _ (placedItems_perm_of_same ((List.perm_append_right_iff _).mp exchange))))
    · rw [State.issueTag_of_not_queued queued]; exact h
  next untagged =>
    rw [IssueEntry.items, if_pos (by simp [untagged])] at h
    exact State.balanced_fall h

/-- A channel's record changes with what it counts. -/
theorem State.balanced_setChannel {s : State} {extra : List Item} (c : Fin 2) {ch : Channel}
    (h : s.balanced extra) (more : List Item) (same : (s.channels[c]).items = more ++ ch.items) :
    (s.setChannel c ch).balanced (more ++ extra) := by
  have exchange := channelItems_set s.channels c ch
  rw [same] at exchange
  refine State.tallied_congr (s := s) (fun _ => rfl) rfl rfl rfl (State.tallied_perm h ?_)
  refine List.perm_iff_count.mpr fun i => ?_
  have counted := exchange.count_eq i
  simp only [placedItems, List.count_append, State.setChannel_tags, State.setChannel_issueQueue,
    State.setChannel_channels] at counted ⊢
  omega

theorem State.balanced_congr {s t : State} {extra : List Item}
    (regions : ∀ r : Fin 64, (t.regions[r]).inFlight = (s.regions[r]).inFlight) (generation : t.generation = s.generation)
    (current : t.currentTotal = s.currentTotal) (previous : t.previousTotal = s.previousTotal)
    (tags : t.tags = s.tags) (queue : t.issueQueue = s.issueQueue) (channels : t.channels = s.channels)
    (h : s.balanced extra) : t.balanced extra := by
  rw [State.balanced, tags, queue, channels]
  exact State.tallied_congr regions generation current previous h

theorem Channel.items_drain {ch : Channel} (law : ch.heldLaw) (drain : ch.state = .drain) : ch.items = [] := by
  obtain ⟨-, -, -, lacks⟩ := law
  unfold Channel.items
  split
  next f formed =>
    rw [IssueEntry.items, if_neg]
    intro untagged
    have running := (lacks f formed).1 (by simpa using untagged)
    rw [Channel.running_iff, drain] at running
    obtain state | state := running <;> cases state
  · rfl

theorem Channel.items_drained (ch : Channel) (cause : HaltCause) (index : Option (Fin 64)) (address : Option Address) :
    (ch.drained cause index address).items = [] := by
  unfold Channel.items Channel.drained
  cases ch.formed with
  | none => rfl
  | some f => cases tag : f.entry.tag <;> simp [Option.filter, tag, IssueEntry.items]

theorem Channel.items_endTag (ch : Channel) (t : Fin 48) : (ch.endTag t).items = ch.items := rfl

/-- A halt that follows a drain ends no item. -/
theorem State.balanced_haltIfEmpty {s : State} {extra : List Item} (h : s.balanced extra) (c : Fin 2)
    (drained : (s.channels[c]).state = .drain → (s.channels[c]).items = []) : (s.haltIfEmpty c).balanced extra := by
  unfold State.haltIfEmpty
  split
  next empty =>
    simp only [Bool.and_eq_true, beq_iff_eq] at empty
    have halted := State.balanced_setChannel c (ch := (s.channels[c]).halt) h [] (by rw [drained empty.1]; rfl)
    rw [List.nil_append] at halted
    rw [State.haltNow_frame]
    exact State.balanced_congr (s := s.setChannel c (s.channels[c]).halt) (fun _ => rfl) rfl rfl rfl rfl rfl rfl halted
  · exact h

/-- A new item has been counted with the current generation, and stands in its place. -/
theorem State.accountLaw_rise {s t : State} {r : Fin 64} (law : s.accountLaw)
    (regions : ∀ i : Fin 64, (t.regions[i]).inFlight = ((s.rise r).regions[i]).inFlight)
    (generation : t.generation = s.generation) (current : t.currentTotal = s.currentTotal + 1)
    (previous : t.previousTotal = s.previousTotal)
    (items : ((r, s.generation) :: placedItems s.tags s.issueQueue s.channels).Perm
      (placedItems t.tags t.issueQueue t.channels)) : t.accountLaw := by
  rw [State.accountLaw_iff] at law ⊢
  exact State.tallied_congr regions generation current previous (State.tallied_perm (State.tallied_rise law r) items)

/-- A change that keeps the counts and the items. -/
theorem State.accountLaw_same {s t : State} (law : s.accountLaw)
    (regions : ∀ r : Fin 64, (t.regions[r]).inFlight = (s.regions[r]).inFlight) (generation : t.generation = s.generation)
    (current : t.currentTotal = s.currentTotal) (previous : t.previousTotal = s.previousTotal)
    (items : (placedItems s.tags s.issueQueue s.channels).Perm (placedItems t.tags t.issueQueue t.channels)) :
    t.accountLaw := by
  rw [State.accountLaw_iff] at law ⊢
  exact State.tallied_congr regions generation current previous (State.tallied_perm law items)

theorem queueItems_append (queue : List IssueEntry) (e : IssueEntry) :
    queueItems (queue ++ [e]) = queueItems queue ++ e.items := by
  simp [queueItems]

theorem queueItems_cons (queue : List IssueEntry) (e : IssueEntry) :
    queueItems (e :: queue) = e.items ++ queueItems queue := List.flatMap_cons

theorem queueItems_filter (queue : List IssueEntry) (q : Fin 16) :
    (queueItems queue).Perm (queueItems (queue.filter (fun e => e.requester == q)) ++
      queueItems (queue.filter (fun e => e.requester != q))) := by
  have apart := (List.filter_append_perm (fun e : IssueEntry => e.requester == q) queue).symm.flatMap_right
    IssueEntry.items
  rw [List.flatMap_append] at apart
  exact apart

theorem State.balanced_flush {s : State} (queue removed : List IssueEntry) (q : Fin 16)
    (h : s.balanced (queueItems removed)) :
    (removed.foldl State.flushUntagged ((List.finRange 48).foldl (State.flushTag queue q) s)).accountLaw := by
  rw [← State.balanced_zero]
  have tagged : ((List.finRange 48).foldl (State.flushTag queue q) s).balanced (queueItems removed) := by
    refine kept_foldl (P := fun u => u.balanced (queueItems removed)) (fun u t law => ?_) _ h
    unfold State.flushTag
    split
    · exact State.balanced_freeTag law t
    · exact law
  clear h
  generalize (List.finRange 48).foldl (State.flushTag queue q) s = u at *
  induction removed generalizing u with
  | nil => exact tagged
  | cons e rest step =>
    refine step _ ?_
    rw [queueItems_cons] at tagged
    unfold State.flushUntagged
    unfold IssueEntry.items at tagged
    split
    next untagged => rw [if_pos untagged] at tagged; exact State.balanced_fall tagged
    next held => rwa [if_neg held, List.nil_append] at tagged

/-- After the loss of the D port nothing is in flight (R27). -/
theorem State.accountLaw_takeLoss {s : State} (channelLaw : s.channelLaw) : (s.takeLoss .d).accountLaw := by
  obtain ⟨queue, channels⟩ := State.takeLoss_empties channelLaw
  have tagged : tagItems (s.takeLoss .d).tags = [] := List.flatMap_eq_nil_iff.mpr fun t _ => by
    rw [s.takeLoss_pool.1, State.closeTags_tags]
    exact TagRecord.items_of_ended (TagRecord.lost_ended _)
  have formed : channelItems (s.takeLoss .d).channels = [] := List.flatMap_eq_nil_iff.mpr fun c _ => by
    rw [Channel.items, (channels c).2]
  rw [State.accountLaw_iff, placedItems, tagged, queue, formed]
  unfold State.takeLoss
  dsimp only
  obtain ⟨previous, current⟩ := State.endAllInFlight_totals ((s.closeTags.emptyIssueQueue.loseChannel 0).loseChannel 1)
  refine ⟨fun r => ?_, fun i mem => (nomatch mem), current, previous⟩
  rw [State.endAllInFlight_frame]
  dsimp only
  rw [mapTable_getElem]
  rfl

theorem State.accountLaw_haltIfEmpty {s : State} (law : s.accountLaw) (c : Fin 2)
    (drained : (s.channels[c]).state = .drain → (s.channels[c]).items = []) : (s.haltIfEmpty c).accountLaw :=
  (State.balanced_zero _).mp (State.balanced_haltIfEmpty ((State.balanced_zero s).mpr law) c drained)

theorem State.accountLaw_setChannel {s : State} (law : s.accountLaw) (c : Fin 2) {ch : Channel}
    (same : ch.items = (s.channels[c]).items) : (s.setChannel c ch).accountLaw := by
  have h := State.balanced_setChannel c (ch := ch) ((State.balanced_zero s).mpr law) [] (by rw [List.nil_append, same])
  rwa [List.nil_append, State.balanced_zero] at h

/-- A channel's tag has ended, and the channel gives it up. -/
theorem State.accountLaw_endTag {s u : State} (law : u.accountLaw) (channelLaw : s.channelLaw)
    (channels : u.channels = s.channels) (c : Fin 2) (t : Fin 48) :
    ((u.setChannel c ((s.channels[c]).endTag t)).haltIfEmpty c).accountLaw := by
  refine State.accountLaw_haltIfEmpty (State.accountLaw_setChannel law c (by rw [channels]; rfl)) c fun drain => ?_
  rw [State.setChannel_channel] at drain ⊢
  exact (Channel.items_endTag _ t).trans (Channel.items_drain (channelLaw c).1 drain)

theorem Channel.items_of_vacant {ch : Channel} (vacant : ch.formed = none) : ch.items = [] := by
  rw [Channel.items, vacant]

theorem Channel.Recast.items {old new : Channel} (recast : old.Recast new) (law : old.heldLaw) :
    new.items = old.items := by
  obtain same | ⟨none, still⟩ := recast.formed
  · rw [Channel.items, same]; rfl
  · obtain ⟨-, -, -, vacant⟩ := law.2.1 still
    rw [Channel.items_of_vacant none, Channel.items_of_vacant vacant]

theorem State.accountLaw_enterDrain {s : State} (law : s.accountLaw) (c : Fin 2) (cause : HaltCause)
    (index : Option (Fin 64)) (address : Option Address) (running : (s.channels[c]).running = true) :
    (s.enterDrain c cause index address).accountLaw := by
  unfold State.enterDrain
  dsimp only
  rw [if_pos running]
  have exchange := channelItems_set s.channels c ((s.channels[c]).drained cause index address)
  rw [Channel.items_drained, List.append_nil] at exchange
  obtain ⟨tags, channels, queue⟩ := s.dropFormed_keeps (s.channels[c]).formed
  refine State.accountLaw_haltIfEmpty ?_ c fun _ => ?_
  · rw [State.accountLaw_iff] at law
    rw [State.accountLaw_iff, State.setChannel_tags, State.setChannel_issueQueue, State.setChannel_channels, tags, queue,
      channels]
    refine State.tallied_congr (s := s.dropFormed (s.channels[c]).formed) (fun _ => rfl) rfl rfl rfl
      (State.tallied_dropFormed (State.tallied_perm law ?_))
    refine List.perm_iff_count.mpr fun i => ?_
    have counted := exchange.count_eq i
    simp only [placedItems, List.count_append] at counted ⊢
    omega
  · rw [State.setChannel_channel]
    exact Channel.items_drained _ _ _ _

theorem IssueEntry.items_of_tagged {e : IssueEntry} {t : Fin 48} (tagged : e.tag = some t) : e.items = [] := by
  simp [IssueEntry.items, tagged]

theorem IssueEntry.items_of_untagged {e : IssueEntry} (untagged : e.tag = none) : e.items = [(e.index, e.generation)] := by
  simp [IssueEntry.items, untagged]

theorem TagRecord.items_of_queued {r : TagRecord} (queued : r.state = .queued) : r.items = [(r.index, r.generation)] := by
  simp [TagRecord.items, TagRecord.inFlight, queued]

theorem TagRecord.items_of_free {r : TagRecord} (free : r.state = .free) : r.items = [] := by
  simp [TagRecord.items, TagRecord.inFlight, free]

theorem State.accountLaw_forward {s : State} (tagLaw : s.tagLaw) (law : s.accountLaw) (r : Request) (kind : RequestKind)
    (p : Passage) (passed : s.Passed p.index p.generation) : (s.forward r kind p).accountLaw := by
  obtain ⟨-, same⟩ | ⟨g, rest, -, head, same⟩ := s.forward_cases r kind p <;> rw [same] <;>
    refine State.accountLaw_rise (r := p.index) law (fun _ => rfl) rfl rfl rfl ?_
  · show List.Perm _ (placedItems s.tags (s.issueQueue ++ [forwardEntry r p none]) s.channels)
    have entry : (forwardEntry r p none).items = [(p.index, s.generation)] := by
      rw [IssueEntry.items_of_untagged rfl, ← passed.generation]
      rfl
    refine List.perm_iff_count.mpr fun i => ?_
    rw [placedItems, placedItems, queueItems_append, entry, ← List.singleton_append]
    simp only [List.count_append]
    omega
  · show List.Perm _ (placedItems (s.tags.set g (forwardTag r kind p))
      (s.issueQueue ++ [forwardEntry r p (some g)]) s.channels)
    have exchange := tagItems_set s.tags g (forwardTag r kind p)
    have tagged : (forwardTag r kind p).items = [(p.index, s.generation)] := by
      rw [TagRecord.items_of_queued rfl, ← passed.generation]
      rfl
    rw [tagged, TagRecord.items_of_free (tagLaw.free_of_head head), List.append_nil] at exchange
    refine List.perm_iff_count.mpr fun i => ?_
    have counted := exchange.count_eq i
    rw [placedItems, placedItems, queueItems_append, IssueEntry.items_of_tagged rfl, ← List.singleton_append]
    simp only [List.count_append, List.count_nil] at counted ⊢
    omega

theorem Channel.items_forming_untagged (ch : Channel) (e : IssueEntry) (copyWrite : Bool) :
    (ch.forming e copyWrite none).items = [(e.index, e.generation)] := IssueEntry.items_of_untagged rfl

theorem Channel.items_forming_tagged (ch : Channel) (e : IssueEntry) (copyWrite : Bool) (t : Fin 48) :
    (ch.forming e copyWrite (some t)).items = [] := IssueEntry.items_of_tagged rfl

theorem State.accountLaw_install {s : State} (tagLaw : s.tagLaw) (law : s.accountLaw) (c : Fin 2) (e : IssueEntry)
    (copyWrite : Bool) (change : Option (Fin 48) → Channel → Channel) (passed : s.Passed e.index e.generation)
    (vacant : (s.channels[c]).formed = none) : (s.install c e copyWrite change).accountLaw := by
  obtain ⟨-, same⟩ | ⟨g, rest, -, head, same⟩ := s.install_cases c e copyWrite change <;> rw [same] <;>
    refine State.accountLaw_rise (r := e.index) law (fun _ => rfl) rfl rfl rfl ?_
  · have exchange := channelItems_set s.channels c ((change none s.channels[c]).forming e copyWrite none)
    rw [Channel.items_forming_untagged, passed.generation, Channel.items_of_vacant vacant, List.append_nil] at exchange
    show List.Perm _ (placedItems s.tags s.issueQueue
      (s.channels.set c ((change none s.channels[c]).forming e copyWrite none)))
    refine List.perm_iff_count.mpr fun i => ?_
    have counted := exchange.count_eq i
    rw [placedItems, placedItems, ← List.singleton_append]
    simp only [List.count_append] at counted ⊢
    omega
  · have exchange := channelItems_set s.channels c ((change (some g) s.channels[c]).forming e copyWrite (some g))
    rw [Channel.items_forming_tagged, Channel.items_of_vacant vacant, List.append_nil, List.append_nil] at exchange
    have exchangeTag := tagItems_set s.tags g (channelTag c e)
    have tagged : (channelTag c e).items = [(e.index, s.generation)] := by
      rw [TagRecord.items_of_queued rfl, ← passed.generation]
      rfl
    rw [tagged, TagRecord.items_of_free (tagLaw.free_of_head head), List.append_nil] at exchangeTag
    show List.Perm _ (placedItems (s.tags.set g (channelTag c e)) s.issueQueue
      (s.channels.set c ((change (some g) s.channels[c]).forming e copyWrite (some g))))
    refine List.perm_iff_count.mpr fun i => ?_
    have counted := exchange.count_eq i
    have countedTag := exchangeTag.count_eq i
    rw [placedItems, placedItems, ← List.singleton_append]
    simp only [List.count_append] at counted countedTag ⊢
    omega

/-- A waiting request takes its tag: its item counts through the tag from now on. -/
theorem State.accountLaw_channelTakesTag {s : State} (tagLaw : s.tagLaw) (law : s.accountLaw) (c : Fin 2) :
    (s.channelTakesTag c).accountLaw := by
  obtain same | ⟨f, g, rest, formed, lacks, head, same⟩ := s.channelTakesTag_cases c <;> rw [same]
  · exact law
  · refine State.accountLaw_same law (fun _ => rfl) rfl rfl rfl ?_
    have exchange := channelItems_set s.channels c ((s.channels[c]).taken f g)
    have exchangeTag := tagItems_set s.tags g (channelTag c f.entry)
    have waiting : (s.channels[c]).items = [(f.entry.index, f.entry.generation)] := by
      simp only [FormedRequest.lacksTag, Bool.and_eq_true, Option.isNone_iff_eq_none] at lacks
      rw [Channel.items, formed]
      exact IssueEntry.items_of_untagged lacks.2
    have holding : ((s.channels[c]).taken f g).items = [] := IssueEntry.items_of_tagged rfl
    have tagged : (channelTag c f.entry).items = [(f.entry.index, f.entry.generation)] := TagRecord.items_of_queued rfl
    rw [holding, waiting, List.append_nil] at exchange
    rw [tagged, TagRecord.items_of_free (tagLaw.free_of_head head), List.append_nil] at exchangeTag
    show List.Perm _ (placedItems (s.tags.set g (channelTag c f.entry)) s.issueQueue
      (s.channels.set c ((s.channels[c]).taken f g)))
    refine List.perm_iff_count.mpr fun i => ?_
    have counted := exchange.count_eq i
    have countedTag := exchangeTag.count_eq i
    rw [placedItems, placedItems]
    simp only [List.count_append] at counted countedTag ⊢
    omega

theorem State.Aside.balanced {s t : State} (h : s.Aside t) {extra : List Item} (law : s.balanced extra) :
    t.balanced extra := by
  refine State.balanced_congr (s := s) (fun r => ?_) ?_ ?_ ?_ ?_ ?_ ?_ law <;> rw [h.frame]

theorem State.accountLaw_of_balanced {s : State} (h : s.balanced []) : s.accountLaw := (State.balanced_zero s).mp h

theorem State.accountLaw.balanced {s : State} (h : s.accountLaw) : s.balanced [] := (State.balanced_zero s).mpr h

/-- The items of what has left its place. -/
theorem State.balanced_unplaced {s t : State} {extra : List Item} (law : s.accountLaw)
    (regions : t.regions = s.regions) (generation : t.generation = s.generation)
    (current : t.currentTotal = s.currentTotal) (previous : t.previousTotal = s.previousTotal)
    (items : (placedItems s.tags s.issueQueue s.channels).Perm
      (extra ++ placedItems t.tags t.issueQueue t.channels)) : t.balanced extra := by
  rw [State.accountLaw_iff] at law
  exact State.tallied_congr (fun _ => by rw [regions]) generation current previous (State.tallied_perm law items)

theorem Move.accountLaw {wild : Prop} {s t : State} (move : Move wild s t) (tagLaw : s.tagLaw) (channelLaw : s.channelLaw)
    (law : s.accountLaw) : t.accountLaw := by
  cases move with
  | aside h => exact State.accountLaw_of_balanced (h.balanced law.balanced)
  | stages | records | begins | invalid | drains | rewrites | popsReply => exact law
  | turns r runState =>
    refine State.accountLaw_same law (fun i => ?_) rfl rfl rfl (.refl _)
    rw [State.setRegion_regions, getElem_set_fin]
    split
    next same => subst same; rfl
    · rfl
  | swaps =>
    rw [State.accountLaw_iff] at law ⊢
    have swapped := State.tallied_swapIfDrained law
    rw [State.swapIfDrained_frame] at swapped ⊢
    exact swapped
  | forwards r kind p passed => exact State.accountLaw_forward tagLaw law r kind p passed
  | installs c e copyWrite change passed _ vacant =>
    exact State.accountLaw_install tagLaw law c e copyWrite change passed vacant
  | takesTag c => exact State.accountLaw_channelTakesTag tagLaw law c
  | recasts c ch recast => exact State.accountLaw_setChannel law c (recast.items (channelLaw c).1)
  | stops c cause index address running => exact State.accountLaw_enterDrain law c cause index address running
  | grantsQueue e rest head aside =>
    refine State.accountLaw_of_balanced (State.balanced_settleIssue (aside.balanced
      (State.balanced_unplaced law rfl rfl rfl rfl ?_)))
    refine List.perm_iff_count.mpr fun i => ?_
    rw [List.append_nil, head, placedItems, placedItems, queueItems_cons]
    simp only [List.count_append]
    omega
  | grantsChannel c f formed ready aside =>
    refine State.accountLaw_of_balanced (State.balanced_settleIssue (aside.balanced
      (State.balanced_setChannel c law.balanced f.entry.items ?_)))
    rw [Channel.items_of_vacant (ch := { s.channels[c] with formed := none }) rfl, List.append_nil, Channel.items, formed]
  | frees t => exact State.accountLaw_of_balanced (State.balanced_freeTag law.balanced t)
  | expires t => exact State.accountLaw_of_balanced (State.balanced_expireTag law.balanced t)
  | answers t =>
    exact State.accountLaw_endTag (State.accountLaw_of_balanced (State.balanced_freeTag law.balanced t)) channelLaw
      (s.freeTag_keeps t).1 _ t
  | lapses t _ _ aside =>
    exact State.accountLaw_endTag (State.accountLaw_of_balanced (aside.balanced
      (State.balanced_expireTag law.balanced t))) channelLaw (aside.channels.trans (s.expireTag_keeps t).1) _ t
  | flushes q =>
    refine State.balanced_flush s.issueQueue _ q (State.balanced_unplaced law rfl rfl rfl rfl ?_)
    refine List.perm_iff_count.mpr fun i => ?_
    have counted := (queueItems_filter s.issueQueue q).count_eq i
    simp only [placedItems, List.count_append] at counted ⊢
    omega
  | loses => exact State.accountLaw_takeLoss channelLaw
  | restarts p => cases p <;> exact law

theorem Deed.accountLaw {wild : Prop} {s t : State} (deed : Deed wild s t) (tagLaw : s.tagLaw)
    (channelLaw : s.channelLaw) (law : s.accountLaw) : t.accountLaw := by
  cases deed with
  | move h => exact h.accountLaw tagLaw channelLaw law
  | reply r => rw [State.placeReply_frame]; exact law

theorem Whole.accountLaw {s t : State} (whole : Whole s t) (law : s.accountLaw) : t.accountLaw := by
  cases whole with
  | powersOn => exact State.reset_accountLaw
  | startsUp u => rw [State.startUp_frame]; exact State.reset_accountLaw
  | gathers | goodImage => exact law
  | badImage words cause => rw [State.failLoad_frame]; exact law
  | badBank i cause other _ loading =>
    rw [State.validationFails_of_loading i cause other loading, State.failLoad_frame]
    exact law
  | comesUp p => rw [State.grantAfterLoading_frame]; cases p <;> exact law

theorem State.accountLaw_tick {s : State} (law : s.accountLaw) : s.tick.accountLaw := by
  obtain same | ⟨now, same⟩ := s.tick_cases <;> rw [same]
  · exact law
  · refine State.accountLaw_same law (fun _ => rfl) rfl rfl rfl ?_
    have ticked : tagItems (mapTable (TagRecord.tick now) s.tags) = tagItems s.tags :=
      flatMap_congr_left fun t _ => by
        rw [mapTable_getElem]
        unfold TagRecord.tick
        split <;> rfl
    exact .of_eq (congrArg (· ++ queueItems s.issueQueue ++ channelItems s.channels) ticked.symm)

/-- The laws that hold together with that of the account. -/
structure State.accountLaws (s : State) : Prop where
  tag : s.tagLaw
  channel : s.channelLaw
  account : s.accountLaw

/-- Settles O11: an item is counted as it takes its place and ends as it leaves it, and a swap finds no item of the
generation before the one it ends. -/
theorem accountLawKept : Obligations.AccountLawKept := by
  intro s t _ tag channel account next
  exact (law_kept_of_step (P := State.accountLaws) (fun _ ⟨tag, channel, account⟩ => ⟨tag, channel, account⟩)
    (fun _ _ deed ⟨tag, channel, account⟩ => ⟨deed.tagLaw tag, deed.channelLaw channel,
      deed.accountLaw tag channel account⟩)
    (fun _ event => ⟨event.tagLaw tag, event.channelLaw channel, event.accountLaw account⟩)
    (fun ⟨tag, channel, account⟩ => ⟨State.tagLaw_tick tag, State.channelLaw_tick channel,
      State.accountLaw_tick account⟩) ⟨tag, channel, account⟩ next).account

end Sys2Proof.Machine

/-! The step, the swap and the fall of an item, and the reset pin (R12, R13, R18, R163). -/

namespace Sys2Proof.Machine

/-! ### The step -/

/-- Settles O1. -/
theorem stepRunsTheFrontCommand : Obligations.StepRunsTheFrontCommand := by
  intro s c rest queue
  simp only [step, queue]

theorem State.tick_of_released {s : State} (released : s.resetHeld = false) :
    s.tick = { s with
      timeBase := s.timeBase + 1#32, tags := mapTable (TagRecord.tick (s.timeBase + 1#32)) s.tags } := by
  unfold State.tick
  rw [if_neg (by simp [released])]
  rfl

/-- Settles O2: each deadline is weighed against the new time. -/
theorem emptyQueueLetsOneMicrosecondPass : Obligations.EmptyQueueLetsOneMicrosecondPass := by
  intro s empty
  have ticks : step s = .next s.tick := by simp only [step, empty]
  refine ⟨fun held => ?_, fun released => ⟨s.tick, ticks, ?_, fun i => ⟨fun d deadline => ?_, fun absent => ?_⟩⟩⟩
  · rw [ticks, State.tick, if_pos held]
  · rw [State.tick_of_released released]
  all_goals
    rw [State.tick_of_released released]
    dsimp only
    rw [mapTable_getElem]
  · simp only [TagRecord.tick, deadline, deadlineReached]
  · simp only [TagRecord.tick, absent]

/-! ### The swap and the fall of an item -/

/-- What a swap makes of a state but for the credit that ends a load (R18). -/
def State.swapped (s : State) : State :=
  { s with
    active := s.staging
    generation := s.generation + 1#8
    previousTotal := s.currentTotal
    currentTotal := 0
    command := s.command.commitDone
    mode := .normal
    pendingCauses := s.pendingCauses ||| 0x02#6 }

theorem State.grantWithheld_eq (s : State) : s.grantWithheld = s.creditGranted := by
  unfold State.grantWithheld State.creditGranted
  split
  next both =>
    simp only [Bool.and_eq_true, beq_iff_eq] at both
    rw [if_pos both]
    rfl
  next none =>
    simp only [Bool.and_eq_true, beq_iff_eq] at none
    rw [if_neg none]

theorem State.swap_eq_swapped {s : State} (ended : s.mode ≠ .loading) : s.swap = s.swapped := by
  unfold State.swap
  rw [if_neg (by simpa using ended)]
  rfl

theorem State.swap_eq_credited {s : State} (loading : s.mode = .loading) : s.swap = s.swapped.creditGranted := by
  unfold State.swap
  rw [if_pos (by simpa using loading), State.grantWithheld_eq]
  rfl

/-- Settles O17. -/
theorem swapMakesStagingActive : Obligations.SwapMakesStagingActive :=
  fun _ => ⟨State.swap_eq_swapped, State.swap_eq_credited⟩

/-- An item has ended, and the commit has not been weighed (R12, R13, R23). -/
def State.fallen (r : Fin 64) (g : BitVec 8) (s : State) : State :=
  { s with
    regions := s.regions.set r
      { runState :=
          if (s.regions[r]).runState = .quiescing ∧ (s.regions[r]).inFlight = 1 then .quiesced
          else (s.regions[r]).runState
        inFlight := (s.regions[r]).inFlight - 1 }
    pendingCauses :=
      if (s.regions[r]).runState = .quiescing ∧ (s.regions[r]).inFlight = 1 then s.pendingCauses ||| 0x04#6
      else s.pendingCauses
    currentTotal := if g = s.generation then s.currentTotal - 1 else s.currentTotal
    previousTotal := if g = s.generation - 1#8 then s.previousTotal - 1 else s.previousTotal }

theorem State.fallTotal_eq (g : BitVec 8) (s : State) :
    s.fallTotal g = { s with
      currentTotal := if g = s.generation then s.currentTotal - 1 else s.currentTotal
      previousTotal := if g = s.generation - 1#8 then s.previousTotal - 1 else s.previousTotal } := by
  have differ : s.generation ≠ s.generation - 1#8 := by bv_omega
  unfold State.fallTotal
  by_cases now : g = s.generation
  · subst now; simp [differ]
  · by_cases before : g = s.generation - 1#8
    · subst before; simp [now]
    · simp [now, before]

theorem State.fallIndex_eq {s : State} {r : Fin 64} (counted : 1 ≤ (s.regions[r]).inFlight) :
    s.fallIndex r = { s with
      regions := s.regions.set r
        { runState :=
            if (s.regions[r]).runState = .quiescing ∧ (s.regions[r]).inFlight = 1 then .quiesced
            else (s.regions[r]).runState
          inFlight := (s.regions[r]).inFlight - 1 }
      pendingCauses :=
        if (s.regions[r]).runState = .quiescing ∧ (s.regions[r]).inFlight = 1 then s.pendingCauses ||| 0x04#6
        else s.pendingCauses } := by
  have last : (s.regions[r]).inFlight - 1 = 0 ↔ (s.regions[r]).inFlight = 1 := by omega
  unfold State.fallIndex RegionStatus.fall
  simp only [Bool.and_eq_true, beq_iff_eq, last]
  split <;> rfl

theorem State.fall_eq {s : State} {r : Fin 64} (counted : 1 ≤ (s.regions[r]).inFlight) (g : BitVec 8) :
    s.fall r g = (s.fallen r g).swapIfDrained := by
  unfold State.fall
  rw [State.fallIndex_eq counted, State.fallTotal_eq]
  rfl

theorem State.swapIfDrained_of_drained {s : State} (drain : s.command.phase = some .drain) (empty : s.previousTotal = 0) :
    s.swapIfDrained = s.swap := by
  unfold State.swapIfDrained
  rw [if_pos (by simp [drain, empty])]

theorem State.swapIfDrained_of_other {s : State} (other : s.command.phase ≠ some .drain ∨ s.previousTotal ≠ 0) :
    s.swapIfDrained = s := by
  unfold State.swapIfDrained
  have idle : ¬(s.command.phase = some .drain ∧ s.previousTotal = 0) := fun ⟨drain, empty⟩ =>
    other.elim (fun no => no drain) (fun no => no empty)
  rw [if_neg (by simpa only [Bool.and_eq_true, beq_iff_eq] using idle)]

/-- Settles O18: the two counts fall by themselves, and the swap is weighed after both. -/
theorem endOfAnItemLowersItsCounts : Obligations.EndOfAnItemLowersItsCounts := by
  intro s r g counted drained t
  have falls : s.fall r g = t.swapIfDrained := State.fall_eq counted g
  exact ⟨fun drain empty => falls.trans (State.swapIfDrained_of_drained drain empty),
    fun other => falls.trans (State.swapIfDrained_of_other other)⟩

/-! ### Reset -/

theorem Vector.getElem_replicate_fin {α : Type} {n : Nat} (x : α) (i : Fin n) : (Vector.replicate n x)[i] = x := by
  simp

/-- Settles O20. -/
theorem powerOnValues : Obligations.PowerOnValues := by
  unfold Obligations.PowerOnValues
  intro s
  have region (i : Fin 64) : s.active[i] = RegionEntry.reset ∧ s.staging[i] = RegionEntry.reset :=
    ⟨Vector.getElem_replicate_fin _ i, Vector.getElem_replicate_fin _ i⟩
  refine ⟨fun i => ⟨(region i).1.trans (region i).2.symm, (region i).1⟩, rfl, rfl, rfl,
    fun i => Vector.getElem_replicate_fin _ i, fun q => Vector.getElem_replicate_fin _ q,
    fun t => Vector.getElem_replicate_fin _ t, ?_, rfl, rfl, fun c => Vector.getElem_replicate_fin _ c,
    fun i => Vector.getElem_replicate_fin _ i, rfl, rfl, rfl, rfl, rfl, rfl, rfl, rfl, rfl, rfl, rfl, rfl, rfl,
    fun p => ?_, rfl, rfl, rfl, rfl, rfl, rfl⟩
  · rfl
  · cases p <;> rfl

theorem State.handed_of_not_up {s : State} (a : Access) (act : State → State) (down : s.uPort.state ≠ .up) :
    s.handed a act = s :=
  State.handed_of_not_handsOver a act s (by simp [State.handsOver, down])

/-- Nothing but the release acts on a gate that the pin holds. -/
theorem exec_of_held (queue : List Instr) (sent : List Sent) (c : Instr) (other : c ≠ .resetRelease) :
    exec c { State.reset with pending := queue, wire := sent } =
      .next { State.reset with pending := queue, wire := sent } := by
  have tag (t : Fin 48) : State.reset.tags[t] = TagRecord.reset := Vector.getElem_replicate_fin _ t
  have channel (c : Fin 2) : State.reset.channels[c] = Channel.reset := Vector.getElem_replicate_fin _ c
  have down : State.reset.uPort.state ≠ .up := PortState.noConfusion
  generalize held : ({ State.reset with pending := queue, wire := sent } : State) = s
  have idle {a : Access} {act : State → State} : s.handed a act = s := by
    subst held
    exact State.handed_of_not_up a act down
  cases c with
  | resetRelease => exact absurd rfl other
  | linkUnitReceive p | initReceive p | ackReceive p | retryReceive p | creditReceive p | resetReceive p
  | initResend p | acknowledgementTimer p | resend p | ackSend p | creditSend p => subst held; cases p <;> rfl
  | badSymbol p kind value check =>
    subst held
    simp only [exec, execBadSymbol, State.receiveBadSymbol]
    cases p <;> rw [if_neg (by simp [State.reset, LinkPort.reset])]
  | tagExpiry t =>
    subst held
    simp [exec, execTagExpiry, State.expireOwn, State.replyDue, tag, TagRecord.reset]
  | requesterExpiry t =>
    subst held
    simp [exec, execRequesterExpiry, State.expireRequester, State.replyDue, tag, TagRecord.reset]
  | reclaim t =>
    subst held
    simp [exec, execReclaim, State.reclaim, tag, TagRecord.reset]
  | channelTagTake c =>
    subst held
    simp [exec, execChannelTagTake, State.channelTakesTag, channel, Channel.reset]
  | closingAnswer =>
    have none : s.lowestClosing = none := by
      subst held
      exact (find?_finRange_eq_none_iff _).mpr fun t => by simp [tag, TagRecord.reset]
    simp only [exec, execClosingAnswer, State.answerClosing, none]
  | resetAssert | imageWord | validationEnd | replySend | grant | admissionEvaluate | completionTake | noticePlace =>
    subst held; rfl
  | unknownCommand a code operand =>
    simp only [exec, execUnknownCommand, idle, ite_self]
  | readOnlyWrite a word value => simp only [exec, execReadOnlyWrite, idle, ite_self]
  | _ => exact congrArg Host.Outcome.next idle

/-- A port that leaves any state for INIT is a fresh one. -/
theorem LinkPort.enterInit_enterDown (l : LinkPort) (advertised : Nat) (now : Word) :
    l.enterDown.enterInit advertised now = l.fresh advertised now := rfl

/-- The U port goes down and begins INIT (R144, R146). -/
theorem State.downAndInit_u_eq (s : State) :
    s.downAndInit .u =
      let credit := if s.mode = .loading then 0 else 16
      { s with
        uPort := s.uPort.fresh credit s.timeBase
        wire := s.wire ++ [symbolOn .u 1#8 (BitVec.ofNat 8 credit)]
        replyQueue := []
        discardedReplies := s.discardedReplies + BitVec.ofNat 32 s.replyQueue.length
        admissionWait := none
        completionWait := s.completionWait.map (fun _ => true) } := by
  unfold State.downAndInit
  have credit : (s.emptyBehind .u).timeBase = s.timeBase ∧ s.advertisement .u = if s.mode = .loading then 0 else 16 := by
    refine ⟨rfl, ?_⟩
    unfold State.advertisement
    cases s.mode <;> rfl
  rw [credit.2]
  split <;> rfl

/-- The D port goes down and begins INIT (R144, R146). -/
theorem State.downAndInit_d_eq (s : State) :
    s.downAndInit .d = { s with
      dPort := s.dPort.fresh 16 s.timeBase
      wire := s.wire ++ [symbolOn .d 1#8 16#8]
      completionWait := none } := rfl

theorem State.startUp_eq (s : State) :
    s.startUp = { State.reset with
      resetHeld := false
      uPort := State.reset.uPort.fresh 0 0#32
      dPort := State.reset.dPort.fresh 16 0#32
      loader := some []
      serialSelect := true
      wire := s.wire ++ [symbolOn .u 1#8 0#8, symbolOn .d 1#8 16#8, .serial 0x03#8, .serial 0x00#8, .serial 0x00#8,
        .serial 0x00#8]
      pending := s.pending } := by
  rw [State.startUp, State.downAndInit_u_eq, State.downAndInit_d_eq]
  have wires : ∀ w : List Sent, (w ++ [symbolOn .u 1#8 0#8]) ++ [symbolOn .d 1#8 16#8] ++
      [.serial 0x03#8, .serial 0x00#8, .serial 0x00#8, .serial 0x00#8] =
      w ++ [symbolOn .u 1#8 0#8, symbolOn .d 1#8 16#8, .serial 0x03#8, .serial 0x00#8, .serial 0x00#8,
        .serial 0x00#8] := fun w => by simp
  rw [← wires s.wire]
  rfl

/-- Settles O21. -/
theorem resetPinHoldsAndReleases : Obligations.ResetPinHoldsAndReleases := by
  refine ⟨fun s => rfl, exec_of_held, fun s held => ?_⟩
  simp only [exec, execResetRelease, State.releaseReset, held, if_true, State.startUp_eq]

end Sys2Proof.Machine

/-! The load of the image and the end of a validation (R164 to R170, R14 to R19). -/

namespace Sys2Proof.Machine

/-! ### A fault among other changes -/

/-- A fault that two states with the same log, the same causes and the same time take leaves the same log. -/
theorem State.takeFault_eq_of_log (f : FaultReport) {s t : State} (log : s.faultLog = t.faultLog)
    (lost : s.lostCount = t.lostCount) (causes : s.pendingCauses = t.pendingCauses) (time : s.timeBase = t.timeBase) :
    s.takeFault f = { s with
      faultLog := (t.takeFault f).faultLog, lostCount := (t.takeFault f).lostCount
      pendingCauses := (t.takeFault f).pendingCauses } := by
  obtain ⟨log', lost', causes'⟩ := State.takeFault_congr f s t log lost causes time
  rw [State.takeFault_frame, log', lost', causes']

/-! ### Failed loads -/

theorem State.failLoad_eq_loadFailed {s : State} (loader : s.loader = none) (select : s.serialSelect = false)
    (cause : ImageCause) (index other : Option (Fin 64)) : s.failLoad cause index other = s.loadFailed cause index other := by
  unfold State.failLoad State.loadFailed
  rw [State.grantWithheld_eq, State.takeFault_frame]
  rw [← loader, ← select]
  rfl

theorem State.failLoad_endRead (s : State) (cause : ImageCause) :
    s.endRead.failLoad cause none none = s.loadFailed cause none none := by
  unfold State.failLoad State.loadFailed
  rw [State.grantWithheld_eq, State.takeFault_eq_of_log (s := s.endRead) (t := s) _ rfl rfl rfl rfl, State.takeFault_frame]
  rfl

/-! ### The words of the image (Table 11-1) -/

theorem getD_concat_length (words : List Word) (w : Word) {n : Nat} (length : (words ++ [w]).length = n + 1) :
    (words ++ [w]).getD n 0#32 = w := by
  have last : n = words.length := by simpa using length.symm
  rw [last]
  simp

theorem judgeImage_first {words : List Word} {w : Word} (length : (words ++ [w]).length = 1) :
    judgeImage (words ++ [w]) = if w = 0x485A3640#32 then .more else .fail .absent := by
  have first : imageWordAt (words ++ [w]) 0 = w := getD_concat_length words w length
  simp only [judgeImage, length, first, bne_iff_ne, ne_eq, ite_not, Config.imageSignature]

theorem judgeImage_second {words : List Word} {w : Word} (length : (words ++ [w]).length = 2) :
    judgeImage (words ++ [w]) = if w = 1#32 then .more else .fail .format := by
  have second : imageWordAt (words ++ [w]) 1 = w := getD_concat_length words w length
  simp only [judgeImage, length, second, bne_iff_ne, ne_eq, ite_not]

theorem judgeImage_third {words : List Word} {w : Word} (length : (words ++ [w]).length = 3) :
    judgeImage (words ++ [w]) = if 64 < w.toNat then .fail .format else .more := by
  have third : imageWordAt (words ++ [w]) 2 = w := getD_concat_length words w length
  simp only [judgeImage, length, imageCount, third]

theorem imageHasManager_iff (words : List Word) :
    imageHasManager words = true ↔ ∃ q : Fin 16, (words.getD (3 + q.val) 0#32).getLsbD 0 = true := by
  simp only [imageHasManager, List.any_eq_true, List.mem_range]
  exact ⟨fun ⟨q, bound, right⟩ => ⟨⟨q, bound⟩, right⟩, fun ⟨q, right⟩ => ⟨q.val, q.isLt, right⟩⟩

theorem judgeImage_later {words : List Word} (length : 4 ≤ words.length) :
    judgeImage words =
      if words.length < 22 + 4 * (words.getD 2 0#32).toNat then .more
      else if words.foldl (· + ·) 0#32 ≠ 0#32 then .fail .sum
      else if ¬∃ q : Fin 16, (words.getD (3 + q.val) 0#32).getLsbD 0 = true then .fail .format
      else .good := by
  obtain ⟨n, long⟩ : ∃ n, words.length = n + 4 := ⟨words.length - 4, by omega⟩
  simp only [judgeImage, long, imageCount, imageWordAt, bne_iff_ne, Bool.not_eq_true', ← imageHasManager_iff,
    Bool.not_eq_true]

/-- The image read so far with the word of these four bytes. -/
def withImageWord (words : List Word) (b0 b1 b2 b3 : Byte) : List Word := words ++ [b3 ++ b2 ++ b1 ++ b0]

theorem exec_imageWord_more {s : State} {words : List Word} (reading : s.loader = some words) {b0 b1 b2 b3 : Byte}
    (verdict : judgeImage (withImageWord words b0 b1 b2 b3) = .more) :
    exec (.imageWord b0 b1 b2 b3) s = .next { s with loader := some (withImageWord words b0 b1 b2 b3) } := by
  unfold withImageWord at *
  simp only [exec, execImageWord, State.takeImageWord, reading, bytesWord, verdict]

theorem exec_imageWord_fail {s : State} {words : List Word} (reading : s.loader = some words) {b0 b1 b2 b3 : Byte}
    {cause : ImageCause} (verdict : judgeImage (withImageWord words b0 b1 b2 b3) = .fail cause) :
    exec (.imageWord b0 b1 b2 b3) s = .next (s.loadFailed cause none none) := by
  unfold withImageWord at *
  simp only [exec, execImageWord, State.takeImageWord, reading, bytesWord, verdict, State.failLoad_endRead]

theorem exec_imageWord_good {s : State} {words : List Word} (reading : s.loader = some words) {b0 b1 b2 b3 : Byte}
    (verdict : judgeImage (withImageWord words b0 b1 b2 b3) = .good) :
    exec (.imageWord b0 b1 b2 b3) s = .next (s.loadImage (withImageWord words b0 b1 b2 b3)) := by
  unfold withImageWord at *
  simp only [exec, execImageWord, State.takeImageWord, reading, bytesWord, verdict]

/-- Settles O22, by the number of words read. -/
theorem imageWordIsGatheredOrEndsTheLoad : Obligations.ImageWordIsGatheredOrEndsTheLoad := by
  intro s words b0 b1 b2 b3 reading w read n whole sum managed failed
  have ends {cause : ImageCause} (verdict : judgeImage read = .fail cause) : failed cause :=
    exec_imageWord_fail reading verdict
  refine ⟨fun gathers => ?_, fun length differs => ends ?_, fun length differs => ends ?_,
    fun length beyond => ends ?_, fun ⟨long, full⟩ wrong => ends ?_, fun ⟨long, full⟩ right none => ends ?_⟩
  · refine exec_imageWord_more reading ?_
    have verdict : judgeImage read = .more := by
      obtain ⟨length, same⟩ | ⟨length, same⟩ | ⟨length, bound⟩ | ⟨length, short⟩ := gathers
      · rw [judgeImage_first length, if_pos same]
      · rw [judgeImage_second length, if_pos same]
      · rw [judgeImage_third length, if_neg (Nat.not_lt.mpr bound)]
      · rw [judgeImage_later length, if_pos short]
    exact verdict
  · rw [judgeImage_first length, if_neg differs]
  · rw [judgeImage_second length, if_neg differs]
  · rw [judgeImage_third length, if_pos beyond]
  · rw [judgeImage_later long, if_neg (Nat.not_lt.mpr full), if_pos wrong]
  · rw [judgeImage_later long, if_neg (Nat.not_lt.mpr full), if_neg (not_not_intro right), if_pos none]

/-! ### The tables that a good image fills (R166) -/

theorem writtenLimit_eq (w : Word) : writtenLimit w = limitOfWord w := by
  simp only [writtenLimit, limitOfWord, bits, Nat.shiftRight_eq_div_pow] <;> rfl

theorem writtenTimeout_eq (w : Word) : writtenTimeout w = timeoutOfWord w := by
  simp only [writtenTimeout, timeoutOfWord, BitVec.extractLsb'_toNat, Config.timeoutLeast, Nat.shiftRight_zero] <;> rfl

theorem writtenNoticeRequester_eq (w : Word) : writtenNoticeRequester w = noticeRequesterOfWord w := by
  have number : requesterOf (w.extractLsb' 0 4) = Fin.ofNat 16 (w.toNat % 16) := by
    ext
    simp [requesterOf]
  simp only [writtenNoticeRequester, noticeRequesterOfWord, number]

theorem imageEntry_eq (words : List Word) (e : RegionEntry) (k : Nat) :
    imageEntry words e k = entryOfWords (words.getD (21 + 4 * k) 0#32) (words.getD (22 + 4 * k) 0#32)
      (words.getD (23 + 4 * k) 0#32) (words.getD (24 + 4 * k) 0#32) := rfl

/-- Settles O23. -/
theorem goodImageFillsTheTables : Obligations.GoodImageFillsTheTables := by
  intro s words b0 b1 b2 b3 reading w read n long full right managed
  have good : judgeImage read = .good := by
    rw [judgeImage_later long, if_neg (Nat.not_lt.mpr full), if_neg (not_not_intro right),
      if_neg (not_not_intro managed)]
  refine ⟨s.loadImage read, exec_imageWord_good reading good, ?_, fun q => ?_, fun k => ?_⟩
  · unfold State.loadImage
    rw [writtenTimeout_eq, writtenNoticeRequester_eq]
    rfl
  · simp only [State.loadImage, mapTableIndexed_getElem, imageRequester, writtenLimit_eq]
    rfl
  · simp only [State.loadImage, imageStaging, mapTableIndexed_getElem, imageEntry_eq]
    rfl

/-! ### The end of a validation -/

theorem State.endValidation_of_report {s : State} (busy : s.command.busy = true)
    (validating : s.command.phase = some .validate) {i : Fin 64} {cause : ValidationCause} {other : Option (Fin 64)}
    (report : validate s.staging = some (i, cause, other)) : s.endValidation = s.validationFails i cause other := by
  simp only [State.endValidation, busy, validating, beq_self_eq_true, Bool.and_self, if_true, report]

theorem State.endValidation_of_pass {s : State} (busy : s.command.busy = true)
    (validating : s.command.phase = some .validate) (passes : validate s.staging = none) :
    s.endValidation = s.validationPasses := by
  simp only [State.endValidation, busy, validating, beq_self_eq_true, Bool.and_self, if_true, passes]

/-- Settles O24, by what validation finds. -/
theorem validationEndDecidesTheCommit : Obligations.ValidationEndDecidesTheCommit := by
  intro s busy validating
  refine ⟨?_, fun passes => ?_⟩
  · intro i cause other report t
    have fails : exec .validationEnd s = .next (s.validationFails i cause other) :=
      congrArg _ (State.endValidation_of_report busy validating report)
    refine ⟨fun ended => fails.trans ?_, fun loading loader select => fails.trans ?_⟩
    · rw [State.validationFails, if_neg (by simpa using ended)]
      rfl
    · rw [State.validationFails, if_pos (by simpa using loading)]
      exact congrArg Host.Outcome.next (State.failLoad_eq_loadFailed (s := t) loader select _ _ _)
  · have ends : exec .validationEnd s = .next s.validationPasses :=
      congrArg _ (State.endValidation_of_pass busy validating passes)
    refine ⟨fun left => ends.trans (congrArg _ ?_), fun drained => ends.trans (congrArg _ ?_)⟩
    · exact State.swapIfDrained_of_other (.inr left)
    · exact State.swapIfDrained_of_drained rfl drained

end Sys2Proof.Machine

/-! The link: arrivals, the send side, and what a port sends of its own (R143 to R158). -/

namespace Sys2Proof.Machine

/-! ### Ports -/

theorem State.updatePort_eq (p : Port) (f : LinkPort → LinkPort) (s : State) :
    s.updatePort p f = s.setPort p (f (s.port p)) := rfl

/-- A port that sends and changes in one event. -/
theorem State.updatePort_send (p : Port) (f : LinkPort → LinkPort) (x : Sent) (s : State) :
    (s.send x).updatePort p f = { s.setPort p (f (s.port p)) with wire := s.wire ++ [x] } := by
  cases p <;> rfl

theorem State.sendSymbol_eq (p : Port) (kind value : Byte) (s : State) :
    s.sendSymbol p kind value = s.send (symbolOn p kind value) := rfl

theorem State.send_setPort (p : Port) (l : LinkPort) (x : Sent) (s : State) :
    (s.setPort p l).send x = { s.setPort p l with wire := s.wire ++ [x] } := by
  cases p <;> rfl

theorem State.raise_setPort (p : Port) (l : LinkPort) (c : Cause) (s : State) :
    (s.setPort p l).raise c = { s.setPort p l with pendingCauses := s.pendingCauses ||| causeBit c } := by
  cases p <;> rfl

/-! ### Link units (R148 to R152) -/

theorem State.receiveUnit_of_init {p : Port} {s : State} (init : (s.port p).state = .init) (bytes : List Byte) :
    s.receiveUnit p bytes =
      s.updatePort p (fun l => l.count (fun c => { c with earlyUnits := c.earlyUnits + 1#32 })) := by
  simp only [State.receiveUnit, init]

theorem State.receiveUnit_of_up {p : Port} {s : State} (up : (s.port p).state = .up) (bytes : List Byte) :
    s.receiveUnit p bytes = s.classUnit p bytes := by
  simp only [State.receiveUnit, up]

/-- One RETRY reports a gap, and a port that has sent it reports no more (R151). -/
theorem State.reportGap_setPort (p : Port) (l : LinkPort) (s : State) :
    (s.setPort p l).reportGap p =
      if l.retrySent = true then s.setPort p l
      else { s.setPort p { l with retrySent := true } with
        wire := s.wire ++ [symbolOn p 3#8 (l.expectedSeq.setWidth 8)] } := by
  unfold State.reportGap
  rw [State.port_setPort]
  split
  · rfl
  · rw [State.sendSymbol_eq, State.updatePort_send, State.port_setPort, State.setPort_setPort, State.setPort_wire]
    rfl

theorem distance_of_ahead {n : BitVec 7} {k : Nat} (high : k ≤ 63) : (n + BitVec.ofNat 7 k - n).toNat = k := by
  have : n + BitVec.ofNat 7 k - n = BitVec.ofNat 7 k := by bv_omega
  rw [this, BitVec.toNat_ofNat]
  omega

theorem distance_of_behind {n : BitVec 7} {k : Nat} (low : 1 ≤ k) (high : k ≤ 64) :
    (n - BitVec.ofNat 7 k - n).toNat = 128 - k := by
  have : n - BitVec.ofNat 7 k - n = 0#7 - BitVec.ofNat 7 k := by bv_omega
  rw [this]
  bv_omega

/-- Settles O25, by what the unit reads as and by its distance from the expected number. -/
theorem linkUnitIsClassed : Obligations.LinkUnitIsClassed := by
  intro p s bytes l run
  have received : run = .next (s.receiveUnit p bytes) := rfl
  refine ⟨fun init => ?_, ?_⟩
  · exact received.trans (congrArg _ (State.receiveUnit_of_init init bytes))
  · intro up gapped
    have classed : run = .next (s.classUnit p bytes) :=
      received.trans (congrArg _ (State.receiveUnit_of_up up bytes))
    refine ⟨fun bad => ?_, fun seq packet good => ?_⟩
    · rw [classed, State.classUnit, bad]
      exact congrArg Host.Outcome.next (State.reportGap_setPort p _ s)
    · have distance : run = .next (if (seq - l.expectedSeq).toNat = 0 then s.takeInOrder p packet
          else if (seq - l.expectedSeq).toNat < 64 then s.takeAheadUnit p else s.takeDuplicate p) := by
        rw [classed, State.classUnit, good]
      refine ⟨fun same room => ?_, fun same none => ?_, fun k low high ahead => ?_, fun k low high behind => ?_⟩
      · rw [distance, if_pos (by simp [same]), State.takeInOrder,
          if_neg (Nat.ne_of_gt room)]
        rfl
      · rw [distance, if_pos (by simp [same]), State.takeInOrder, if_pos none]
      · have far : (seq - l.expectedSeq).toNat = k := ahead ▸ distance_of_ahead high
        rw [distance, far, if_neg (by omega), if_pos (by omega)]
        exact congrArg Host.Outcome.next (State.reportGap_setPort p _ s)
      · have far : (seq - l.expectedSeq).toNat = 128 - k := behind ▸ distance_of_behind low high
        rw [distance, far, if_neg (by omega), if_neg (by omega)]
        exact congrArg Host.Outcome.next (State.send_setPort p _ _ s)

/-! ### INIT (R144, R145, R157) -/

theorem State.receiveInit_of_init {p : Port} {s : State} (init : (s.port p).state = .init) (value : Byte) :
    s.receiveInit p value =
      ((s.updatePort p (fun l => l.enterUp (initCredit value))).raise .link).grantAfterLoading p := by
  simp only [State.receiveInit, init]

theorem State.receiveInit_of_up {p : Port} {s : State} (up : (s.port p).state = .up) (value : Byte) :
    s.receiveInit p value =
      if initMark value then s else s.sendSymbol p initKind (initValue (s.port p).allowance true) := by
  simp only [State.receiveInit, up]

/-- Settles O26. -/
theorem initBringsThePortUp : Obligations.InitBringsThePortUp := by
  intro p s value l credit up t
  have received : exec (.initReceive p value) s = .next (s.receiveInit p value) := rfl
  refine ⟨fun init => ?_, fun isUp => ?_⟩
  · have raised : exec (.initReceive p value) s = .next (t.grantAfterLoading p) :=
      received.trans (congrArg _ ((State.receiveInit_of_init init value).trans
        (congrArg (State.grantAfterLoading p) (State.raise_setPort p up .link s))))
    refine ⟨fun still => raised.trans (congrArg _ ?_), fun isU ended withholds => raised.trans (congrArg _ ?_)⟩
    · obtain rfl | loading | open_ := still
      · rfl
      · cases p with
        | d => rfl
        | u => simp only [State.grantAfterLoading, show t.mode = .loading from loading]
      · cases p with
        | d => rfl
        | u =>
          have kept : t.grantWithheld = t := by
            rw [State.grantWithheld_eq, State.creditGranted, if_neg]
            rintro ⟨-, withholds⟩
            exact Bool.noConfusion (open_.symm.trans withholds)
          unfold State.grantAfterLoading
          split <;> first | exact kept | rfl
    · subst isU
      rw [← State.grantWithheld_eq]
      have mode : t.mode ≠ .loading := ended
      unfold State.grantAfterLoading
      split
      · rfl
      · rfl
      next loading => exact absurd loading mode
      next other => cases other
  · refine ⟨fun unmarked => ?_, fun marked => ?_⟩
    · rw [received, State.receiveInit_of_up isUp, initMark, unmarked]
      rfl
    · rw [received, State.receiveInit_of_up isUp, initMark, marked]
      rfl

/-! ### Acknowledgements (R154, R155) -/

theorem LinkPort.takeAck_of_stored {l : LinkPort} {n : BitVec 7} {older rest : List LinkUnit} {u : LinkUnit}
    (stored : l.replayStore = older ++ u :: rest) (named : u.seq = n) (others : ∀ v ∈ older, v.seq ≠ n) (now : Word) :
    l.takeAck n now = l.afterAck (older.length + 1) rest now := by
  have found : l.acknowledged n = some (older.length + 1) := by
    have absent : older.findIdx? (fun u => u.seq == n) = none := by
      simpa [List.findIdx?_eq_none_iff] using others
    rw [LinkPort.acknowledged, stored, List.findIdx?_append, absent, List.findIdx?_cons]
    simp [named]
  have left : l.replayStore.drop (older.length + 1) = rest := by
    rw [stored, ← List.singleton_append, ← List.append_assoc]
    exact List.drop_left' (by simp)
  rw [LinkPort.takeAck, found]
  simp only [LinkPort.removeAcknowledged, LinkPort.afterAck, left, List.isEmpty_iff, Option.isNone_iff_eq_none,
    Config.ackTime]

theorem LinkPort.takeAck_of_absent {l : LinkPort} {n : BitVec 7} (absent : ∀ u ∈ l.replayStore, u.seq ≠ n) (now : Word) :
    l.takeAck n now = l := by
  have none : l.acknowledged n = none := by
    rw [LinkPort.acknowledged, Option.map_eq_none_iff]
    simpa [List.findIdx?_eq_none_iff] using absent
  rw [LinkPort.takeAck, none]

theorem symbolIsBad_of {kind value check : Byte} (bad : check ≠ crc8 kind value ∨ kind = 0#8 ∨ 6 ≤ kind.toNat) :
    symbolIsBad kind value check = true := by
  simp only [symbolIsBad, Bool.or_eq_true, bne_iff_ne, ne_eq, Bool.not_eq_true', decide_eq_false_iff_not]
  refine bad.imp_right fun outside => ?_
  simp only [List.mem_cons, List.not_mem_nil, or_false, initKind, ackKind, retryKind, creditKind, resetKind]
  bv_omega

/-- Settles O27. -/
theorem ackCreditAndBadSymbols : Obligations.AckCreditAndBadSymbols := by
  intro p s value l
  have acked (up : l.state = .up) :
      exec (.ackReceive p value) s = .next (s.setPort p (l.takeAck (value.extractLsb' 0 7) s.timeBase)) := by
    refine congrArg Host.Outcome.next ?_
    rw [State.receiveAck, if_pos (by simpa using up)]
    rfl
  refine ⟨fun older rest u up stored named others => ?_, fun up absent => ?_, fun up => ?_, fun init => ⟨?_, ?_⟩,
    fun kind check alive bad => ?_⟩
  · rw [acked up, LinkPort.takeAck_of_stored stored named others]
  · rw [acked up, LinkPort.takeAck_of_absent absent, State.setPort_port]
  · refine congrArg Host.Outcome.next ?_
    rw [State.receiveCredit, if_pos (by simpa using up)]
    rfl
  · refine congrArg Host.Outcome.next ?_
    rw [State.receiveAck, if_neg (by rw [show (s.port p).state = .init from init]; decide)]
  · refine congrArg Host.Outcome.next ?_
    rw [State.receiveCredit, if_neg (by rw [show (s.port p).state = .init from init]; decide)]
  · refine congrArg Host.Outcome.next ?_
    rw [State.receiveBadSymbol, if_pos (by simpa [symbolIsBad_of bad] using alive)]
    rfl

/-! ### Replays (R155, R156) -/

theorem State.replayBegins_of_lt {p : Port} {s : State} (again : (s.port p).retryRun < 4) :
    s.replayBegins p = s.setPort p (s.port p).replaying := by
  rw [State.replayBegins, if_neg (by simp only [Config.retryRunEnd]; omega)]
  rfl

theorem State.replayBegins_of_le {p : Port} {s : State} (ended : 4 ≤ (s.port p).retryRun) :
    s.replayBegins p = s.resetPort p .retryExhausted := by
  rw [State.replayBegins, if_pos (by simp only [Config.retryRunEnd]; omega)]

/-- A RETRY that leaves a unit at the head of the store: a replay begins when the RETRY names it (R155). -/
theorem State.receiveRetry_of_cons {p : Port} {s : State} {n : BitVec 7} {l : LinkPort} (up : (s.port p).state = .up)
    (acked : (s.port p).takeAck (n - 1#7) s.timeBase = l) {head : LinkUnit} {rest : List LinkUnit}
    (left : l.replayStore = head :: rest) :
    s.receiveRetry p n = if head.seq = n then (s.setPort p l).replayBegins p else s.setPort p l := by
  subst acked
  rw [State.receiveRetry, if_pos (by simpa using up)]
  simp only [State.updatePort_eq, State.port_setPort, left, beq_iff_eq]

theorem State.receiveRetry_of_nil {p : Port} {s : State} {n : BitVec 7} {l : LinkPort} (up : (s.port p).state = .up)
    (acked : (s.port p).takeAck (n - 1#7) s.timeBase = l) (left : l.replayStore = []) :
    s.receiveRetry p n = s.setPort p l := by
  subst acked
  rw [State.receiveRetry, if_pos (by simpa using up)]
  simp only [State.updatePort_eq, State.port_setPort, left]

/-- Settles O28, by what the RETRY acknowledges and what then heads the store. -/
theorem retryAcknowledgesAndReplays : Obligations.RetryAcknowledgesAndReplays := by
  intro p s value up n l
  have received : exec (.retryReceive p value) s = .next (s.receiveRetry p n) := rfl
  refine ⟨fun u rest stored named absent => ?_, fun older rest u v stored named others heads => ?_,
    fun older u stored named others => ?_, fun absent => ?_⟩
  · have begins : s.receiveRetry p n = s.replayBegins p := by
      rw [State.receiveRetry_of_cons up (LinkPort.takeAck_of_absent absent _) stored, if_pos named, State.setPort_port]
    rw [received, begins]
    exact ⟨fun again => congrArg _ (State.replayBegins_of_lt again),
      fun ended => congrArg _ (State.replayBegins_of_le ended)⟩
  · rw [received, State.receiveRetry_of_cons up (LinkPort.takeAck_of_stored stored named others _) rfl, if_pos heads,
      State.replayBegins_of_lt (by rw [State.port_setPort]; exact Nat.zero_lt_succ 3), State.port_setPort,
      State.setPort_setPort]
  · rw [received, State.receiveRetry_of_nil up (LinkPort.takeAck_of_stored stored named others _) rfl]
  · have kept := LinkPort.takeAck_of_absent (fun u mem => (absent u mem).2) s.timeBase
    rw [received]
    cases stored : l.replayStore with
    | nil => rw [State.receiveRetry_of_nil up kept stored, State.setPort_port]
    | cons head rest =>
      rw [State.receiveRetry_of_cons up kept stored, if_neg (absent head (by rw [stored]; exact List.mem_cons_self)).1,
        State.setPort_port]

end Sys2Proof.Machine

/-! The link: the acknowledgement timer, resends, and what a port owes (R144, R149, R152, R156, R158). -/

namespace Sys2Proof.Machine

/-! ### The acknowledgement timer (R156) -/

theorem deadlineReached_of_lt {now due : Word} (reached : (now - due).toNat < 2 ^ 31) : deadlineReached now due = true :=
  decide_eq_true reached

theorem State.ackTimerReached_of_due {p : Port} {s : State} {due : Word} (up : (s.port p).state = .up)
    (timer : (s.port p).ackTimer = some due) (reached : (s.timeBase - due).toNat < 2 ^ 31)
    (stored : (s.port p).replayStore ≠ []) (idle : (s.port p).replay = none) :
    s.ackTimerReached p = s.replayBegins p := by
  simp only [State.ackTimerReached, timer]
  rw [if_pos (by simp [up, stored, idle, deadlineReached_of_lt reached])]

theorem State.ackTimerReached_of_not_due {p : Port} {s : State}
    (not : (s.port p).state ≠ .up ∨ (s.port p).ackTimer = none ∨
      (∃ due, (s.port p).ackTimer = some due ∧ 2 ^ 31 ≤ (s.timeBase - due).toNat) ∨ (s.port p).replayStore = [] ∨
      (s.port p).replay ≠ none) : s.ackTimerReached p = s := by
  cases timer : (s.port p).ackTimer with
  | none => simp only [State.ackTimerReached, timer]
  | some due =>
    simp only [State.ackTimerReached, timer]
    rw [if_neg]
    simp only [Bool.and_eq_true, beq_iff_eq, deadlineReached, decide_eq_true_eq, Bool.not_eq_true',
      List.isEmpty_eq_false_iff, Option.isNone_iff_eq_none]
    rintro ⟨⟨⟨up, reached⟩, stored⟩, idle⟩
    obtain down | absent | ⟨d, same, early⟩ | empty | replays := not
    · exact down up
    · rw [timer] at absent; cases absent
    · rw [timer] at same; cases same; omega
    · exact stored empty
    · exact replays idle

theorem State.resendOne_of_not_replaying {p : Port} {s : State} (not : (s.port p).state ≠ .up ∨ (s.port p).replay = none) :
    s.resendOne p = s := by
  unfold State.resendOne
  dsimp only
  split
  next up replay =>
    obtain down | idle := not
    · exact absurd up down
    · rw [replay] at idle; cases idle
  · rfl

theorem State.resendOne_of_replaying {p : Port} {s : State} {i : Nat} {u : LinkUnit} (up : (s.port p).state = .up)
    (replay : (s.port p).replay = some i) (stored : (s.port p).replayStore[i]? = some u) :
    s.resendOne p = { s.setPort p ((s.port p).resent i s.timeBase) with wire := s.wire ++ [.unit p (unitBytes u)] } := by
  simp only [State.resendOne, up, replay, stored]
  exact State.updatePort_send p _ _ s

/-- Settles O29. -/
theorem timerBeginsAReplayThatResends : Obligations.TimerBeginsAReplayThatResends := by
  intro p s l
  refine ⟨fun not => congrArg _ (State.ackTimerReached_of_not_due not),
    fun not => congrArg _ (State.resendOne_of_not_replaying not), fun due up timer reached stored idle => ?_,
    fun i u up replay stored => ?_⟩
  · have begins := State.ackTimerReached_of_due up timer reached stored idle
    exact ⟨fun again => congrArg _ (begins.trans (State.replayBegins_of_lt again)),
      fun ended => congrArg _ (begins.trans (State.replayBegins_of_le ended))⟩
  · have resent : l.resent i s.timeBase = { l with
        replay := if i + 1 < l.replayStore.length then some (i + 1) else none
        ackTimer := if i + 1 < l.replayStore.length then l.ackTimer else some (s.timeBase + 64#32)
        counters := { l.counters with unitsResent := l.counters.unitsResent + 1#32 } } := by
      unfold LinkPort.resent
      dsimp only
      split <;> rfl
    rw [← resent]
    exact congrArg Host.Outcome.next (State.resendOne_of_replaying up replay stored)

/-! ### What a port owes (R144, R149, R158) -/

theorem State.sendAck_of_owed {p : Port} {s : State} (up : (s.port p).state = .up) (owed : (s.port p).ackOwed = true) :
    s.sendAck p = { s.setPort p { s.port p with ackOwed := false } with
      wire := s.wire ++ [symbolOn p 2#8 (((s.port p).expectedSeq - 1#7).setWidth 8)] } := by
  simp only [State.sendAck]
  rw [if_pos (by simp [up, owed])]
  exact State.updatePort_send p _ _ s

theorem creditValue_eq {k : Nat} (low : 1 ≤ k) (high : k ≤ 16) : creditValue k = BitVec.ofNat 8 (k - 1) := by
  rw [creditValue, Nat.mod_eq_of_lt (by omega)]

theorem State.sendOwedCredit_of_owed {p : Port} {s : State} (up : (s.port p).state = .up)
    (owed : 1 ≤ (s.port p).owedCredit) :
    s.sendOwedCredit p =
      let k := min (s.port p).owedCredit 16
      { s.setPort p { s.port p with
          owedCredit := (s.port p).owedCredit - k, allowance := (s.port p).allowance + k } with
        wire := s.wire ++ [symbolOn p 4#8 (BitVec.ofNat 8 (k - 1))] } := by
  simp only [State.sendOwedCredit, Config.inboundSlots]
  rw [if_pos (by simp only [up, beq_self_eq_true, Bool.true_and, decide_eq_true_eq]; omega), State.sendCredit,
    creditValue_eq (by omega) (by omega), State.sendSymbol_eq, State.updatePort_send]
  cases p <;> rfl

theorem State.sendInitAgain_of_due {p : Port} {s : State} {due : Word} (init : (s.port p).state = .init)
    (timer : (s.port p).initDue = some due) (reached : (s.timeBase - due).toNat < 2 ^ 31) :
    s.sendInitAgain p = { s.setPort p { s.port p with initDue := some (due + 10#32) } with
      wire := s.wire ++ [symbolOn p 1#8 (BitVec.ofNat 8 ((s.port p).advertised % 128))] } := by
  have sends : s.sendInitAgain p = if deadlineReached s.timeBase due then
      (s.sendSymbol p initKind (initValue (s.port p).advertised false)).updatePort p
        (fun l => { l with initDue := some (due + Config.initTime) }) else s := by
    simp only [State.sendInitAgain, init, timer]
  rw [sends, if_pos (deadlineReached_of_lt reached), State.sendSymbol_eq, State.updatePort_send]
  rfl

theorem State.sendInitAgain_of_not_due {p : Port} {s : State}
    (not : (s.port p).state ≠ .init ∨ (s.port p).initDue = none ∨
      ∃ due, (s.port p).initDue = some due ∧ 2 ^ 31 ≤ (s.timeBase - due).toNat) : s.sendInitAgain p = s := by
  unfold State.sendInitAgain
  split
  next due init timer =>
    rw [if_neg]
    simp only [deadlineReached, decide_eq_true_eq]
    intro reached
    obtain other | absent | ⟨d, same, early⟩ := not
    · exact other init
    · rw [timer] at absent; cases absent
    · rw [timer] at same; cases same; omega
  · rfl

/-- Settles O32. -/
theorem owedSymbolsAndInitAreSent : Obligations.OwedSymbolsAndInitAreSent := by
  intro p s l
  refine ⟨fun up owed => congrArg _ (State.sendAck_of_owed up owed),
    fun up owed => congrArg _ (State.sendOwedCredit_of_owed up owed),
    fun due init timer reached => congrArg _ (State.sendInitAgain_of_due init timer reached),
    fun not => congrArg Host.Outcome.next ?_, fun not => congrArg Host.Outcome.next ?_,
    fun not => congrArg _ (State.sendInitAgain_of_not_due not)⟩
  · refine if_neg ?_
    simp only [Bool.and_eq_true, beq_iff_eq]
    rintro ⟨up, owed⟩
    exact not.elim (fun down => down up) (fun none => Bool.noConfusion (none.symm.trans owed))
  · refine if_neg ?_
    simp only [Bool.and_eq_true, beq_iff_eq, decide_eq_true_eq]
    rintro ⟨up, owed⟩
    exact not.elim (fun down => down up) (fun none => absurd none (Nat.ne_of_gt owed))

end Sys2Proof.Machine

/-! The loss of the D port (R18, R27, R68, R77, R104, R116), and the reset of a port (R146, R147). -/

namespace Sys2Proof.Machine

/-! ### What a run of faults leaves in the log -/

/-- The log of one state is that of another, with some more causes pending. -/
structure State.LogsAs (s u : State) (q : BitVec 6) : Prop where
  log : s.faultLog = u.faultLog
  lost : s.lostCount = u.lostCount
  time : s.timeBase = u.timeBase
  causes : s.pendingCauses = u.pendingCauses ||| q

theorem State.LogsAs.refl (s : State) : s.LogsAs s 0#6 := ⟨rfl, rfl, rfl, (BitVec.or_zero).symm⟩

theorem State.LogsAs.congr {s t u : State} {q : BitVec 6} (h : s.LogsAs u q) (log : t.faultLog = s.faultLog)
    (lost : t.lostCount = s.lostCount) (time : t.timeBase = s.timeBase) (causes : t.pendingCauses = s.pendingCauses) :
    t.LogsAs u q :=
  ⟨log.trans h.log, lost.trans h.lost, time.trans h.time, causes.trans h.causes⟩

theorem State.LogsAs.raise {s u : State} {q : BitVec 6} (h : s.LogsAs u q) (c : Cause) :
    (s.raise c).LogsAs u (q ||| causeBit c) :=
  ⟨h.log, h.lost, h.time, by rw [State.raise_pendingCauses, h.causes, BitVec.or_assoc]⟩

theorem State.LogsAs.takeFault {s u : State} {q : BitVec 6} (h : s.LogsAs u q) (f : FaultReport) :
    (s.takeFault f).LogsAs (u.takeFault f) q := by
  obtain ⟨log, lost, time, causes⟩ := h
  have swapped : u.pendingCauses ||| q ||| causeBit .log = u.pendingCauses ||| causeBit .log ||| q := by
    rw [BitVec.or_assoc, BitVec.or_comm q, BitVec.or_assoc]
  unfold State.takeFault State.addFault
  rw [log, lost, time]
  repeat' split
  all_goals exact ⟨by simp, by simp, by simp, by simp [causes, swapped]⟩

@[simp] theorem State.takeFaults_nil (s : State) : s.takeFaults [] = s := rfl

theorem State.takeFaults_append (l m : List FaultReport) (s : State) :
    s.takeFaults (l ++ m) = (s.takeFaults l).takeFaults m := List.foldl_append

/-! ### The wait of the admission packet -/

/-- A waiting admission packet is woken by a tag or by an issue slot (R46). -/
def wakenedBy (tag issue : Bool) (w : Option AdmissionWait) : Option AdmissionWait :=
  w.map (fun w => { w with again := w.again || (w.tag && tag) || (w.issue && issue) })

theorem wakenedBy_none (w : Option AdmissionWait) : wakenedBy false false w = w := by
  cases w <;> simp [wakenedBy]

theorem wakenedBy_wakenedBy (a b c d : Bool) (w : Option AdmissionWait) :
    wakenedBy a b (wakenedBy c d w) = wakenedBy (c || a) (d || b) w := by
  cases w with
  | none => rfl
  | some w =>
    simp only [wakenedBy, Option.map_some, Option.some.injEq, AdmissionWait.mk.injEq, true_and]
    cases w.again <;> cases w.tag <;> cases w.issue <;> cases a <;> cases b <;> cases c <;> cases d <;> rfl

theorem State.noteFreeTag_admissionWait (s : State) : s.noteFreeTag.admissionWait = wakenedBy true false s.admissionWait := by
  cases h : s.admissionWait <;> simp [State.noteFreeTag, State.noteAdmission, wakenedBy, h]

theorem State.noteIssueSlot_admissionWait (s : State) :
    s.noteIssueSlot.admissionWait = wakenedBy false true s.admissionWait := by
  cases h : s.admissionWait <;> simp [State.noteIssueSlot, State.noteAdmission, wakenedBy, h]

theorem not_isEmpty_filter {α : Type} (p : α → Bool) (l : List α) : (!(l.filter p).isEmpty) = l.any p := by
  induction l with
  | nil => rfl
  | cons x rest step =>
    rw [List.filter_cons, List.any_cons]
    split
    next holds => simp [holds]
    next fails => simpa [fails] using step

/-! ### The tags close -/

/-- The tag is in flight and the gate's own. -/
def TagRecord.gates (r : TagRecord) : Bool := r.inFlight && r.owner == .gate

/-- A closing tag, by what is lost with it (R68). -/
theorem State.closeTag_eq (s : State) (t : Fin 48) :
    s.closeTag t =
      if (s.tags[t]).gates then (s.putFree t).takeFault (lostGateTag t s.tags[t])
      else if (s.tags[t]).freedByLoss then s.putFree t
      else if (s.tags[t]).inFlight then s.setTag t (s.tags[t]).close
      else s := by
  unfold State.closeTag TagRecord.gates TagRecord.freedByLoss TagRecord.inFlight
  dsimp only
  split
  case h_1 state owner | h_2 state owner | h_3 state owner | h_4 state owner | h_5 state owner | h_6 state owner =>
    simp [-Fin.getElem_fin, state, owner]
  case h_7 state | h_8 state | h_9 state => simp [-Fin.getElem_fin, state]

theorem State.LogsAs.closeTag {s u : State} {q : BitVec 6} (h : s.LogsAs u q) (t : Fin 48) :
    (s.closeTag t).LogsAs (if (s.tags[t]).gates then u.takeFault (lostGateTag t s.tags[t]) else u) q := by
  have freed : (s.putFree t).LogsAs u q := State.LogsAs.congr h rfl rfl rfl rfl
  rw [State.closeTag_eq]
  split
  · exact freed.takeFault _
  · split
    · exact freed
    · split
      · exact State.LogsAs.congr h rfl rfl rfl rfl
      · exact h

theorem State.closeTag_wait (s : State) (t : Fin 48) :
    (s.closeTag t).admissionWait = wakenedBy (s.tags[t]).freedByLoss false s.admissionWait := by
  have woken : (s.putFree t).admissionWait = wakenedBy true false s.admissionWait := State.noteFreeTag_admissionWait _
  have freed (gates : (s.tags[t]).gates = true) : (s.tags[t]).freedByLoss = true := by
    simp only [TagRecord.gates, Bool.and_eq_true, beq_iff_eq] at gates
    simp [-Fin.getElem_fin, TagRecord.freedByLoss, gates]
  rw [State.closeTag_eq]
  split
  next gates => rw [State.takeFault_frame, freed gates]; exact woken
  next =>
    split
    next free => rw [free]; exact woken
    next kept =>
      rw [Bool.not_eq_true] at kept
      rw [kept, wakenedBy_none]
      split <;> rfl

/-- A run over some tags closes each of them as it stood before the run. -/
theorem State.LogsAs.closeTags {l : List (Fin 48)} (once : l.Nodup) {s u : State} {q : BitVec 6} (h : s.LogsAs u q) :
    (l.foldl State.closeTag s).LogsAs
      (u.takeFaults ((l.filter (fun t => (s.tags[t]).gates)).map (fun t => lostGateTag t s.tags[t]))) q := by
  induction l generalizing s u with
  | nil => exact h
  | cons t rest step =>
    obtain ⟨fresh, once⟩ := List.nodup_cons.mp once
    have others (j : Fin 48) (mem : j ∈ rest) : (s.closeTag t).tags[j] = s.tags[j] := by
      rw [(s.closeTag_pool t).1, getElem_set_fin, if_neg (fun same : t = j => fresh (same ▸ mem))]
    have faults : (rest.filter (fun j => ((s.closeTag t).tags[j]).gates)).map
        (fun j => lostGateTag j (s.closeTag t).tags[j]) =
        (rest.filter (fun j => (s.tags[j]).gates)).map (fun j => lostGateTag j s.tags[j]) := by
      rw [List.filter_congr fun j mem => by rw [others j mem]]
      exact List.map_congr_left fun j mem => by rw [others j ((List.mem_filter.mp mem).1)]
    have rest' := step once (h.closeTag t)
    rw [faults] at rest'
    rw [List.foldl_cons, List.filter_cons]
    split
    next gates => rw [if_pos gates] at rest'; exact rest'
    next other => rw [if_neg other] at rest'; exact rest'

theorem State.closeTags_logs (s : State) : s.closeTags.LogsAs (s.takeFaults s.gateTagFaults) 0#6 :=
  State.LogsAs.closeTags (List.nodup_finRange 48) (State.LogsAs.refl s)

theorem State.closeTags_wait (s : State) :
    s.closeTags.admissionWait =
      wakenedBy ((List.finRange 48).any (fun t => (s.tags[t]).freedByLoss)) false s.admissionWait := by
  have run (l : List (Fin 48)) (once : l.Nodup) (u : State) : (l.foldl State.closeTag u).admissionWait =
      wakenedBy (l.any (fun t => (u.tags[t]).freedByLoss)) false u.admissionWait := by
    induction l generalizing u with
    | nil => exact (wakenedBy_none _).symm
    | cons t rest step =>
      obtain ⟨fresh, once⟩ := List.nodup_cons.mp once
      have others : rest.any (fun j => ((u.closeTag t).tags[j]).freedByLoss) =
          rest.any (fun j => (u.tags[j]).freedByLoss) := by
        rw [← not_isEmpty_filter, ← not_isEmpty_filter, List.filter_congr fun j mem => ?_]
        rw [(u.closeTag_pool t).1, getElem_set_fin, if_neg (fun same : t = j => fresh (same ▸ mem))]
      rw [List.foldl_cons, step once, State.closeTag_wait, wakenedBy_wakenedBy, others, List.any_cons, Bool.or_self]
  exact run _ (List.nodup_finRange 48) s

/-! ### The issue queue empties -/

theorem State.LogsAs.dropEntries {s u : State} {q : BitVec 6} (h : s.LogsAs u q) (queue : List IssueEntry) :
    (queue.foldl State.dropEntry s).LogsAs (u.takeFaults ((queue.filter (fun e => e.tag.isNone)).map (fun e =>
      { kind := .linkDown, port := some .d, requester := some e.requester, region := some e.index }))) q := by
  induction queue generalizing s u with
  | nil => exact h
  | cons e rest step =>
    rw [List.foldl_cons, List.filter_cons]
    unfold State.dropEntry
    split
    · exact step (h.takeFault _)
    · exact step h

theorem State.emptyIssueQueue_logs {s u : State} {q : BitVec 6} (h : s.LogsAs u q) :
    s.emptyIssueQueue.LogsAs (u.takeFaults s.postedFaults) q := by
  have dropped := h.dropEntries s.issueQueue
  unfold State.emptyIssueQueue
  dsimp only
  split <;> exact State.LogsAs.congr dropped rfl rfl rfl rfl

theorem State.emptyIssueQueue_wait (s : State) :
    s.emptyIssueQueue.admissionWait = wakenedBy false (!s.issueQueue.isEmpty) s.admissionWait := by
  have kept : (s.issueQueue.foldl State.dropEntry s).admissionWait = s.admissionWait :=
    kept_foldl (P := fun u => u.admissionWait = s.admissionWait)
      (fun u e same => by rw [State.dropEntry_frame]; exact same) _ rfl
  unfold State.emptyIssueQueue
  dsimp only
  split
  next empty => rw [empty]; exact kept.trans (wakenedBy_none _).symm
  next filled =>
    rw [Bool.not_eq_true] at filled
    rw [State.noteIssueSlot_admissionWait, filled]
    exact congrArg _ kept

/-! ### The channels halt -/

/-- A channel's record after the loss of the D port (R101, R104). -/
def Channel.lostLink (ch : Channel) : Channel :=
  if ch.running = true then { ch with haltCause := .linkDown, haltIndex := none, haltAddress := none }.halt
  else if ch.state = .drain then ch.halt
  else ch

/-- A channel halts in the loss and tells the notice unit. -/
def Channel.tells (ch : Channel) : Bool := (ch.running || ch.state == .drain) && ch.notifyOnHalt

theorem haltPort_eq (cause : HaltCause) :
    haltPort cause = if cause = .targetError ∨ cause = .timeout ∨ cause = .linkDown then some .d else none := by
  cases cause <;> rfl

theorem State.haltNow_channels (c : Fin 2) (ch : Channel) (s : State) :
    (s.haltNow c ch).channels = s.channels.set c ch.halt := by
  rw [State.haltNow_frame]

theorem State.haltNow_logs {s u : State} {q : BitVec 6} (h : s.LogsAs u q) (c : Fin 2) (ch : Channel) :
    (s.haltNow c ch).LogsAs (u.takeFaults (if ch.haltCause = .stopped then [] else [haltFault ch]))
      (q ||| if ch.notifyOnHalt then causeBit (channelCause c) else 0#6) := by
  have kept : (s.setChannel c ch.halt).LogsAs u q := State.LogsAs.congr h rfl rfl rfl rfl
  have told : (if ch.haltCause == .stopped then s.setChannel c ch.halt
      else (s.setChannel c ch.halt).takeFault (haltFault ch)).LogsAs
      (u.takeFaults (if ch.haltCause = .stopped then [] else [haltFault ch])) q := by
    by_cases stopped : ch.haltCause = .stopped
    · rw [if_pos (by simpa using stopped), if_pos stopped]; exact kept
    · rw [if_neg (by simpa using stopped), if_neg stopped]; exact kept.takeFault _
  unfold State.haltNow
  dsimp only
  split
  · exact told.raise _
  · rw [BitVec.or_zero]; exact told

theorem State.loseChannel_channels_eq (c : Fin 2) (s : State) :
    (s.loseChannel c).channels = s.channels.set c (s.channels[c]).lostLink := by
  unfold State.loseChannel Channel.lostLink
  simp only [beq_iff_eq]
  split
  · exact State.haltNow_channels _ _ _
  · split
    · exact State.haltNow_channels _ _ _
    · exact (set_getElem_fin _ _).symm

theorem State.loseChannel_logs {s u : State} {q : BitVec 6} (h : s.LogsAs u q) (c : Fin 2) :
    (s.loseChannel c).LogsAs (u.takeFaults (s.channelFaults c))
      (q ||| if (s.channels[c]).tells then causeBit (channelCause c) else 0#6) := by
  unfold State.loseChannel State.channelFaults Channel.tells
  simp only [beq_iff_eq]
  split
  next running =>
    have halted := State.haltNow_logs h c
      { s.channels[c] with haltCause := .linkDown, haltIndex := none, haltAddress := none }
    simpa [-Fin.getElem_fin, running, haltFault, haltPort] using halted
  next stopped =>
    rw [Bool.not_eq_true] at stopped
    split
    next drain =>
      have halted := State.haltNow_logs h c s.channels[c]
      simp only [haltFault, haltPort_eq] at halted
      by_cases told : (s.channels[c]).haltCause = .stopped
      · simpa [-Fin.getElem_fin, drain, told, stopped] using halted
      · simpa [-Fin.getElem_fin, drain, told, stopped] using halted
    next other =>
      simpa [-Fin.getElem_fin, other, stopped] using h

/-! ### The loss (R116) -/

/-- The bits of these notice causes. -/
def causeMask (channel0 channel1 quiesced command : Bool) : BitVec 6 :=
  (if channel0 then 0x08#6 else 0#6) ||| (if channel1 then 0x10#6 else 0#6) ||| (if quiesced then 0x04#6 else 0#6) |||
    (if command then 0x02#6 else 0#6)

theorem getLsbD_causeMask : ∀ a b c d : Bool,
    (causeMask a b c d).getLsbD 0 = false ∧ (causeMask a b c d).getLsbD 1 = d ∧ (causeMask a b c d).getLsbD 2 = c ∧
      (causeMask a b c d).getLsbD 3 = a ∧ (causeMask a b c d).getLsbD 4 = b ∧ (causeMask a b c d).getLsbD 5 = false := by
  decide

/-- The causes that the loss of the D port makes pending besides LOG. -/
def State.lossCauses (s : State) : BitVec 6 :=
  causeMask (s.channels[(0 : Fin 2)]).tells (s.channels[(1 : Fin 2)]).tells
    (s.regions.toList.any (fun r => r.runState == .quiescing)) (s.command.phase == some .drain)

theorem State.lossCauses_bits (s : State) :
    s.lossCauses.getLsbD 0 = false ∧ s.lossCauses.getLsbD 1 = (s.command.phase == some .drain) ∧
      s.lossCauses.getLsbD 2 = s.regions.toList.any (fun r => r.runState == .quiescing) ∧
      s.lossCauses.getLsbD 3 = (s.channels[(0 : Fin 2)]).tells ∧
      s.lossCauses.getLsbD 4 = (s.channels[(1 : Fin 2)]).tells ∧ s.lossCauses.getLsbD 5 = false :=
  getLsbD_causeMask _ _ _ _

/-- The state after the loss of the D port, its swap not at the end of a load. -/
def State.lost (s : State) : State :=
  { s with
    tags := mapTable TagRecord.lost s.tags
    freeTags := s.freeTags ++ (List.finRange 48).filter (fun t => (s.tags[t]).freedByLoss)
    issueQueue := []
    channels := mapTable Channel.lostLink s.channels
    regions := mapTable RegionStatus.lose s.regions
    currentTotal := 0
    previousTotal := 0
    active := if s.command.phase = some .drain then s.staging else s.active
    generation := if s.command.phase = some .drain then s.generation + 1#8 else s.generation
    command := if s.command.phase = some .drain then s.command.commitDone else s.command
    mode := if s.command.phase = some .drain then .normal else s.mode
    faultLog := (s.takeFaults s.lossFaults).faultLog
    lostCount := (s.takeFaults s.lossFaults).lostCount
    pendingCauses := (s.takeFaults s.lossFaults).pendingCauses ||| s.lossCauses
    admissionWait := wakenedBy ((List.finRange 48).any (fun t => (s.tags[t]).freedByLoss)) (!s.issueQueue.isEmpty)
      s.admissionWait }

/-- The state once the tags are closed, the issue queue empty and the channels halted. -/
def State.halts (s : State) : State := ((s.closeTags.emptyIssueQueue).loseChannel 0).loseChannel 1

theorem mapTable_eq {α : Type} {n : Nat} {f : α → α} {v w : Vector α n} (each : ∀ i : Fin n, w[i] = f v[i]) :
    w = mapTable f v := by
  refine Vector.ext fun i bound => ?_
  have one := each ⟨i, bound⟩
  have other := mapTable_getElem f v ⟨i, bound⟩
  exact one.trans other.symm

theorem State.halts_frame (s : State) :
    s.halts = { s with
      tags := mapTable TagRecord.lost s.tags
      freeTags := s.freeTags ++ (List.finRange 48).filter (fun t => (s.tags[t]).freedByLoss)
      issueQueue := []
      channels := mapTable Channel.lostLink s.channels
      faultLog := s.halts.faultLog, lostCount := s.halts.lostCount, pendingCauses := s.halts.pendingCauses
      admissionWait := wakenedBy ((List.finRange 48).any (fun t => (s.tags[t]).freedByLoss)) (!s.issueQueue.isEmpty)
        s.admissionWait } := by
  have tags : s.closeTags.tags = mapTable TagRecord.lost s.tags := mapTable_eq s.closeTags_tags
  have wait : s.closeTags.emptyIssueQueue.admissionWait =
      wakenedBy ((List.finRange 48).any (fun t => (s.tags[t]).freedByLoss)) (!s.issueQueue.isEmpty) s.admissionWait := by
    have queue : s.closeTags.issueQueue = s.issueQueue := by rw [State.closeTags_frame]
    rw [State.emptyIssueQueue_wait, State.closeTags_wait, wakenedBy_wakenedBy, queue, Bool.false_or, Bool.or_false]
  have before : s.closeTags.emptyIssueQueue.channels = s.channels := by
    rw [State.emptyIssueQueue_frame, State.closeTags_frame]
  have channels : s.halts.channels = mapTable Channel.lostLink s.channels := by
    refine mapTable_eq fun c => ?_
    rw [State.halts, State.loseChannel_channels_eq, State.loseChannel_channels_eq, before]
    obtain rfl | rfl : c = 0 ∨ c = 1 := by omega
    · rw [getElem_set_fin, if_neg (by decide), getElem_set_fin, if_pos rfl]
    · rw [getElem_set_fin, if_pos rfl, getElem_set_fin, if_neg (by decide)]
  have frame : s.halts = { s.closeTags.emptyIssueQueue with
      channels := s.halts.channels, faultLog := s.halts.faultLog, lostCount := s.halts.lostCount
      pendingCauses := s.halts.pendingCauses } := by
    unfold State.halts
    rw [State.loseChannel_frame 1, State.loseChannel_frame 0]
  rw [frame, channels, State.emptyIssueQueue_frame, wait, State.closeTags_frame, tags, State.closeTags_freeTags]

theorem State.halts_logs (s : State) :
    s.halts.LogsAs (s.takeFaults s.lossFaults)
      ((if (s.channels[(0 : Fin 2)]).tells then 0x08#6 else 0#6) |||
        (if (s.channels[(1 : Fin 2)]).tells then 0x10#6 else 0#6)) := by
  have queue : s.closeTags.issueQueue = s.issueQueue := by rw [State.closeTags_frame]
  have channels : s.closeTags.emptyIssueQueue.channels = s.channels := by
    rw [State.emptyIssueQueue_frame, State.closeTags_frame]
  have second : (s.closeTags.emptyIssueQueue.loseChannel 0).channels[(1 : Fin 2)] = s.channels[(1 : Fin 2)] := by
    rw [State.loseChannel_channels_eq, channels, getElem_set_fin, if_neg (by decide)]
  have posted : s.closeTags.postedFaults = s.postedFaults := by
    unfold State.postedFaults
    rw [queue]
  have faults0 : s.closeTags.emptyIssueQueue.channelFaults 0 = s.channelFaults 0 := by
    unfold State.channelFaults
    rw [channels]
  have faults1 : (s.closeTags.emptyIssueQueue.loseChannel 0).channelFaults 1 = s.channelFaults 1 := by
    unfold State.channelFaults
    rw [second]
  have halted := State.loseChannel_logs (State.loseChannel_logs (State.emptyIssueQueue_logs s.closeTags_logs) 0) 1
  rw [second, channels, posted, faults0, faults1, BitVec.zero_or] at halted
  simp only [State.lossFaults, State.takeFaults_append]
  exact halted

theorem State.endAllInFlight_eq {s : State} (live : s.mode ≠ .loading ∨ s.command.phase ≠ some .drain) :
    s.endAllInFlight = { s with
      regions := mapTable RegionStatus.lose s.regions
      currentTotal := 0
      previousTotal := 0
      active := if s.command.phase = some .drain then s.staging else s.active
      generation := if s.command.phase = some .drain then s.generation + 1#8 else s.generation
      command := if s.command.phase = some .drain then s.command.commitDone else s.command
      mode := if s.command.phase = some .drain then .normal else s.mode
      pendingCauses := s.pendingCauses |||
        (if s.regions.toList.any (fun r => r.runState == .quiescing) then 0x04#6 else 0#6) |||
        (if s.command.phase = some .drain then 0x02#6 else 0#6) } := by
  have told (u : State) : (if s.regions.toList.any (fun r => r.runState == .quiescing) then u.raise .quiesced else u) =
      { u with pendingCauses := u.pendingCauses |||
        (if s.regions.toList.any (fun r => r.runState == .quiescing) then 0x04#6 else 0#6) } := by
    split
    · rfl
    · rw [BitVec.or_zero]
  unfold State.endAllInFlight
  dsimp only
  rw [told]
  by_cases drain : s.command.phase = some .drain
  · have mode : s.mode ≠ .loading := live.resolve_right (not_not_intro drain)
    refine (State.swapIfDrained_of_drained ?_ ?_).trans ((State.swap_eq_swapped ?_).trans ?_)
    · exact drain
    · rfl
    · exact mode
    · simp only [drain, if_true]
      rfl
  · refine (State.swapIfDrained_of_other (.inl ?_)).trans ?_
    · exact drain
    · simp only [drain, if_false, BitVec.or_zero]

theorem State.takeLoss_eq {s : State} (live : s.mode ≠ .loading ∨ s.command.phase ≠ some .drain) :
    s.takeLoss .d = s.lost := by
  obtain ⟨log, lost, -, causes⟩ := s.halts_logs
  have frame := s.halts_frame
  rw [log, lost, causes] at frame
  have kept : s.halts.mode = s.mode ∧ s.halts.command = s.command := by rw [frame]; exact ⟨rfl, rfl⟩
  have ended : s.takeLoss .d = s.halts.endAllInFlight := rfl
  rw [ended, State.endAllInFlight_eq (by rw [kept.1, kept.2]; exact live), frame]
  simp only [State.lost, State.lossCauses, causeMask, beq_iff_eq, BitVec.or_assoc]

/-- The causes above LOG that a run of faults leaves pending are those that were. -/
theorem State.takeFaults_causes (l : List FaultReport) (s : State) {i : Nat} (above : 1 ≤ i) :
    (s.takeFaults l).pendingCauses.getLsbD i = s.pendingCauses.getLsbD i := by
  induction l generalizing s with
  | nil => rfl
  | cons f rest step =>
    refine (step (s.takeFault f)).trans ?_
    have logBit : (causeBit .log).getLsbD i = false := by
      simp [causeBit]
      omega
    unfold State.takeFault State.addFault
    repeat' split
    all_goals simp [State.raise, logBit]

theorem exists_quiescing_iff (v : Vector RegionStatus 64) :
    v.toList.any (fun r => r.runState == .quiescing) = true ↔ ∃ r : Fin 64, (v[r]).runState = .quiescing := by
  simp only [List.any_eq_true, Vector.mem_toList_iff, beq_iff_eq]
  constructor
  · rintro ⟨r, mem, quiescing⟩
    obtain ⟨i, bound, rfl⟩ := Vector.mem_iff_getElem.mp mem
    exact ⟨⟨i, bound⟩, quiescing⟩
  · rintro ⟨r, quiescing⟩
    exact ⟨_, Vector.getElem_mem r.isLt, quiescing⟩

/-- Settles O31, from the state that the loss leaves, field by field. -/
theorem dPortLossSettlesEverything : Obligations.DPortLossSettlesEverything := by
  intro s live t freed noted told
  have same : t = s.lost := State.takeLoss_eq live
  have tells (c : Fin 2) : (s.channels[c]).tells = true ↔ told c := by
    simp only [Channel.tells, Bool.and_eq_true, Bool.or_eq_true, beq_iff_eq, told]
  have logged (i : Nat) (above : 1 ≤ i) : noted.pendingCauses.getLsbD i = s.pendingCauses.getLsbD i :=
    State.takeFaults_causes _ _ above
  clear_value t
  subst same
  have causes (i : Nat) : s.lost.pendingCauses.getLsbD i =
      (noted.pendingCauses.getLsbD i || s.lossCauses.getLsbD i) := BitVec.getLsbD_or
  obtain ⟨bit0, bit1, bit2, bit3, bit4, bit5⟩ := s.lossCauses_bits
  refine ⟨fun i => mapTable_getElem _ _ i, rfl, rfl, fun c => mapTable_getElem _ _ c, fun r => ?_, rfl, rfl, rfl, rfl,
    rfl, rfl, ?_, ?_, ?_, ?_, ?_, ?_, ?_, rfl⟩
  · refine (mapTable_getElem RegionStatus.lose s.regions r).trans ?_
    simp only [RegionStatus.lose, beq_iff_eq]
  · rw [causes, bit0, Bool.or_false]
  · rw [causes, logged 1 (by decide), bit1]
    simp
  · rw [causes, logged 2 (by decide), bit2, Bool.or_eq_true, exists_quiescing_iff]
  · rw [causes, logged 3 (by decide), bit3, Bool.or_eq_true, tells]
  · rw [causes, logged 4 (by decide), bit4, Bool.or_eq_true, tells]
  · rw [causes, logged 5 (by decide), bit5, Bool.or_false]
  · rw [show freed = (List.finRange 48).filter (fun t => (s.tags[t]).freedByLoss) from rfl, not_isEmpty_filter]
    rfl

/-! ### The reset of a port (R146, R147) -/

theorem State.LogsAs.takeFaults {s u : State} {q : BitVec 6} (h : s.LogsAs u q) (l : List FaultReport) :
    (s.takeFaults l).LogsAs (u.takeFaults l) q := by
  induction l generalizing s u with
  | nil => exact h
  | cons f rest step => exact step (h.takeFault f)

/-- The loss takes no notice of what has been sent. -/
theorem State.lost_wire (s : State) (w : List Sent) : ({ s with wire := w } : State).lost = { s.lost with wire := w } := by
  have logs : ({ s with wire := w } : State).LogsAs s 0#6 := ⟨rfl, rfl, rfl, BitVec.or_zero.symm⟩
  obtain ⟨log, lost, -, causes⟩ := logs.takeFaults s.lossFaults
  rw [BitVec.or_zero] at causes
  have frame : ({ s with wire := w } : State).lost = { s.lost with
      wire := w
      faultLog := (State.takeFaults s.lossFaults { s with wire := w }).faultLog
      lostCount := (State.takeFaults s.lossFaults { s with wire := w }).lostCount
      pendingCauses := (State.takeFaults s.lossFaults { s with wire := w }).pendingCauses ||| s.lossCauses } := rfl
  rw [frame, log, lost, causes]
  rfl

/-- The RESET that a port's own reset sends first (R147). -/
def resetTold (p : Port) (cause : ResetCause) : List Sent := if cause = .peerReset then [] else [symbolOn p 5#8 0#8]

theorem State.announceReset_eq (p : Port) (cause : ResetCause) (s : State) :
    s.announceReset p cause = { s with wire := s.wire ++ resetTold p cause } := by
  unfold State.announceReset resetTold
  simp only [beq_iff_eq]
  split
  · rw [List.append_nil]
  · rfl

theorem State.resetPort_of_not_up {p : Port} {s : State} (down : (s.port p).state ≠ .up) (cause : ResetCause) :
    s.resetPort p cause = ({ s with wire := s.wire ++ resetTold p cause } : State).downAndInit p := by
  rw [State.resetPort, if_neg (by simpa using down), State.announceReset_eq]

/-- A link loss is counted and recorded, and LINK becomes pending (R147). -/
def State.linkLost (p : Port) (cause : ResetCause) (s : State) : State :=
  let recorded := s.takeFault { kind := .linkReset, port := some p, detail := some (.reset cause) }
  { recorded.setPort p ((s.port p).count (fun c => { c with linkLosses := c.linkLosses + 1#32 })) with
    pendingCauses := recorded.pendingCauses ||| 0x20#6 }

theorem State.resetPort_of_up {p : Port} {s : State} (up : (s.port p).state = .up) (cause : ResetCause) :
    s.resetPort p cause =
      (State.takeLoss p { s.linkLost p cause with wire := s.wire ++ resetTold p cause }).downAndInit p := by
  rw [State.resetPort, if_pos (by simpa using up), State.announceReset_eq]
  dsimp only
  rw [State.takeFault_eq_of_log (t := s) _ (by cases p <;> rfl) (by cases p <;> rfl) (by cases p <;> rfl)
    (by cases p <;> rfl), State.linkLost]
  dsimp only
  rw [State.takeFault_frame _ s]
  cases p <;> rfl

theorem State.linkLost_frame (p : Port) (cause : ResetCause) (s : State) :
    s.linkLost p cause = { s.setPort p ((s.port p).count (fun c => { c with linkLosses := c.linkLosses + 1#32 })) with
      faultLog := (s.linkLost p cause).faultLog, lostCount := (s.linkLost p cause).lostCount
      pendingCauses := (s.linkLost p cause).pendingCauses } := by
  unfold State.linkLost
  rw [State.takeFault_frame]
  cases p <;> rfl

/-- The U port restarts from a state that is another one as far as the restart reads it. -/
theorem State.downAndInit_u_as {x s : State} (time : x.timeBase = s.timeBase) (mode : x.mode = s.mode)
    (queue : x.replyQueue = s.replyQueue) (discarded : x.discardedReplies = s.discardedReplies)
    (wait : x.completionWait = s.completionWait) :
    x.downAndInit .u =
      let credit := if s.mode = .loading then 0 else 16
      { x with
        uPort := x.uPort.fresh credit s.timeBase
        wire := x.wire ++ [symbolOn .u 1#8 (BitVec.ofNat 8 credit)]
        replyQueue := []
        discardedReplies := s.discardedReplies + BitVec.ofNat 32 s.replyQueue.length
        admissionWait := none
        completionWait := s.completionWait.map (fun _ => true) } := by
  rw [← time, ← mode, ← queue, ← discarded, ← wait]
  exact State.downAndInit_u_eq x

/-- Settles O30, by the port and whether it was UP. -/
theorem portResetClearsAndRestarts : Obligations.PortResetClearsAndRestarts := by
  intro s cause told uCredit counted recorded uRestarted dRestarted
  refine ⟨fun down => ?_, fun up => ?_, fun down => ?_, fun up live => ?_, fun p value alive => ?_⟩
  · exact (State.resetPort_of_not_up (p := .u) down cause).trans (State.downAndInit_u_eq _)
  · have frame := State.linkLost_frame .u cause s
    have port : (s.linkLost .u cause).uPort = counted s.uPort := by rw [frame]; rfl
    have time : (s.linkLost .u cause).timeBase = s.timeBase := by rw [frame]; rfl
    have mode : (s.linkLost .u cause).mode = s.mode := by rw [frame]; rfl
    have queue : (s.linkLost .u cause).replyQueue = s.replyQueue := by rw [frame]; rfl
    have discarded : (s.linkLost .u cause).discardedReplies = s.discardedReplies := by rw [frame]; rfl
    have wait : (s.linkLost .u cause).completionWait = s.completionWait := by rw [frame]; rfl
    rw [State.resetPort_of_up (p := .u) up cause, State.takeLoss,
      State.downAndInit_u_as (x := { s.linkLost .u cause with wire := s.wire ++ resetTold .u cause, armed := true })
        time mode queue discarded wait]
    dsimp only
    rw [port]
    rfl
  · exact (State.resetPort_of_not_up (p := .d) down cause).trans (State.downAndInit_d_eq _)
  · have kept : (s.linkLost .d cause).mode = s.mode ∧ (s.linkLost .d cause).command = s.command := by
      rw [State.linkLost_frame]
      exact ⟨rfl, rfl⟩
    rw [← kept.1, ← kept.2] at live
    have taken : State.takeLoss .d { recorded .d with
        dPort := counted s.dPort, pendingCauses := (recorded .d).pendingCauses ||| 0x20#6 } =
        (s.linkLost .d cause).lost := State.takeLoss_eq live
    refine (State.resetPort_of_up (p := .d) up cause).trans ((State.downAndInit_d_eq _).trans ?_)
    rw [taken, State.takeLoss_eq (by exact live), State.lost_wire]
    have time : (s.linkLost .d cause).lost.timeBase = s.timeBase := by
      show (s.linkLost .d cause).timeBase = _
      rw [State.linkLost_frame]
      rfl
    have port : (s.linkLost .d cause).lost.dPort = counted s.dPort := by
      show (s.linkLost .d cause).dPort = _
      rw [State.linkLost_frame]
      rfl
    have fresh : (s.linkLost .d cause).lost.dPort.fresh 16 (s.linkLost .d cause).lost.timeBase =
        (counted s.dPort).fresh 16 s.timeBase := by rw [time, port]
    dsimp only
    rw [fresh]
    rfl
  · refine congrArg Host.Outcome.next ?_
    unfold State.receiveReset
    split
    · rfl
    · rfl
    next down => exact absurd down alive

end Sys2Proof.Machine

/-! Forming a channel's requests: the checks (R93), the formed request with its tag (R94), the request that waits for
one; before them the region check itself (R4 to R8). Settles O15, O45 and O43. -/
namespace Sys2Proof.Machine

/-! ### The region check -/

theorem State.regionCheck_of_miss {s : State} {address : Nat} (missed : lookup s.active (address / 4096) = none)
    (n : Nat) (kind : RequestKind) (q : Fin 16) : s.regionCheck address n kind q = .miss := by
  have absent : lookup s.active (pageOf address) = none := missed
  simp only [State.regionCheck, absent]

section
variable {s : State} {address n : Nat} {kind : RequestKind} {q : Fin 16} {r : Fin 64}

theorem State.regionCheck_of_span (found : lookup s.active (address / 4096) = some r)
    (beyond : (s.active[r]).upstreamEnd ≤ (address + 4 * (n - 1)) / 4096) :
    s.regionCheck address n kind q = .span r := by
  have present : lookup s.active (pageOf address) = some r := found
  simp only [State.regionCheck, present]
  exact if_pos beyond

theorem State.regionCheck_of_inside (found : lookup s.active (address / 4096) = some r)
    (inside : (address + 4 * (n - 1)) / 4096 < (s.active[r]).upstreamEnd) :
    s.regionCheck address n kind q =
      if !(s.active[r]).permits kind q then .permission r
      else if (s.regions[r]).runState != .opened then .paused r
      else .pass { index := r, address := (s.active[r]).translate address,
                   kind := (s.active[r]).downstreamKind kind, generation := s.generation } := by
  have present : lookup s.active (pageOf address) = some r := found
  simp only [State.regionCheck, present]
  exact if_neg (Nat.not_le.mpr inside)

end

theorem RegionEntry.permits_eq (e : RegionEntry) (kind : RequestKind) (q : Fin 16) :
    e.permits kind q = if kind = .rd then e.readSet.getLsbD q.val else e.writeSet.getLsbD q.val := by
  cases kind <;> rfl

theorem RegionEntry.downstreamKind_eq (e : RegionEntry) (kind : RequestKind) :
    e.downstreamKind kind = if kind = .pw ∧ e.mode = .confirm then .cw else kind := by
  cases kind <;> cases mode : e.mode <;> simp [RegionEntry.downstreamKind, mode]

/-- Settles O15: the tests of the region check in their order. -/
theorem regionCheckOrder : Obligations.RegionCheckOrder := by
  intro s address n kind q words
  refine ⟨fun missed => State.regionCheck_of_miss missed n kind q, fun r found => ?_⟩
  intro e lastPage permitted moved
  refine ⟨State.regionCheck_of_span found, fun inside => ?_⟩
  have check := State.regionCheck_of_inside (kind := kind) (q := q) found inside
  have permits : (s.active[r]).permits kind q = permitted := RegionEntry.permits_eq _ kind q
  rw [permits, RegionEntry.downstreamKind_eq] at check
  refine ⟨fun refused => by rw [check, refused]; rfl, fun allowed stopped => ?_, fun allowed opened => ?_,
    fun lawful => ?_⟩
  · rw [check, allowed, if_neg (by decide), if_pos (by simpa using stopped)]
  · rw [check, allowed, if_neg (by decide), if_neg (by simpa using opened)]
    rfl
  · obtain ⟨valid, least, -⟩ := (RegionEntry.contains_iff _ _).mp (contains_of_lookup found)
    obtain ⟨-, -, end_le, -⟩ := lawful r valid
    have reaches : (address + 4 * (n - 1)) / 4096 < e.upstreamBase.toNat + e.pageCount.toNat := inside
    have ends : e.downstreamBase.toNat + e.pageCount.toNat ≤ 16777216 := end_le
    have starts : e.upstreamBase.toNat ≤ address / 4096 := least
    exact ⟨by rw [BitVec.toNat_ofNat]; omega, by omega⟩

/-! ### The tag of a formed request -/

theorem State.channelTakesTag_of_lacking {s : State} {c : Fin 2} {f : FormedRequest} {g : Fin 48}
    {free : List (Fin 48)} (formed : (s.channels[c]).formed = some f) (kind : f.entry.kind ≠ .pw)
    (untagged : f.entry.tag = none) (first : s.freeTags = g :: free) :
    s.channelTakesTag c = State.setChannel c ((s.channels[c]).taken f g) { s with
      freeTags := free, tags := s.tags.set g (channelTag c f.entry) } := by
  have lacks : f.lacksTag = true := by simp [FormedRequest.lacksTag, kind, untagged]
  simp only [State.channelTakesTag, formed, lacks, if_true, State.takeTag_cons _ _ _ _ first]
  rfl

/-- Settles O45: a waiting request takes the head of the free list. -/
theorem waitingRequestTakesATag : Obligations.WaitingRequestTakesATag := by
  intro s c f g free formed kind untagged first ch
  have answered : exec (.channelTagTake c) s = .next (s.channelTakesTag c) := rfl
  rw [answered, State.channelTakesTag_of_lacking formed kind untagged first]
  simp only [State.setChannel, channelTag, Channel.taken, beq_iff_eq, Option.isNone_iff_eq_none]
  rfl

/-! ### The checks of a channel's request -/

section
variable {s : State} {q : Fin 16} {address n : Nat} {kind : RequestKind}

theorem State.channelCheck_of_fenced (fenced : (s.requesters[q]).state = .fenced) :
    s.channelCheck q address n kind = .stop .refused none (some (shownAddress address)) := by
  simp only [State.channelCheck, fenced, beq_self_eq_true, if_true]

theorem State.channelCheck_of_down (opened : (s.requesters[q]).state = .opened) (down : s.dPort.state ≠ .up) :
    s.channelCheck q address n kind = .stop .linkDown none none := by
  unfold State.channelCheck
  rw [if_neg (by rw [opened]; decide), if_pos (by simpa using down)]

/-- What a region check makes of a channel's request (R93). -/
def CheckResult.formResult (shown : Option Address) : CheckResult → FormResult
  | .miss => .stop .refused none shown
  | .span r => .stop .refused (some r) shown
  | .permission r => .stop .refused (some r) shown
  | .paused r => .stop .paused (some r) shown
  | .pass p => .pass p

theorem State.channelCheck_of_up (opened : (s.requesters[q]).state = .opened) (up : s.dPort.state = .up) :
    s.channelCheck q address n kind =
      (s.regionCheck address n kind q).formResult (some (shownAddress address)) := by
  unfold State.channelCheck
  rw [if_neg (by rw [opened]; decide), if_neg (by simp [up])]
  cases s.regionCheck address n kind q <;> rfl

end

/-! ### The request that a channel forms -/

theorem channelEntry_eq (owner : Fin 16) (p : Passage) {n : Nat} (words : 1 ≤ n) (data : List Word)
    (tag : Option (Fin 48)) : { channelEntry owner p n data with tag := tag } = requestOf owner p n data tag := by
  have enables : channelLastEnables n = if n = 1 then 0x0#4 else 0xF#4 := by
    unfold channelLastEnables
    rcases Nat.lt_or_eq_of_le words with several | one
    · rw [if_pos several, if_neg (by omega)]
    · rw [← one]
      rfl
  simp only [channelEntry, requestOf, enables]

section
variable {s : State} {c : Fin 2} {e : IssueEntry} (copyWrite : Bool) (change : Option (Fin 48) → Channel → Channel)

theorem State.install_of_none (untagged : e.kind = .pw ∨ s.freeTags = []) :
    s.install c e copyWrite change = (s.oneMoreInFlight e.index).setChannel c
      ((change none (s.channels[c])).forming e copyWrite none) := by
  rcases State.install_cases c e copyWrite change s with ⟨-, installed⟩ | ⟨g, free, tagged, first, -⟩
  · exact installed
  · rw [first] at untagged
    exact absurd untagged (not_or.mpr ⟨tagged, List.cons_ne_nil _ _⟩)

theorem State.install_of_some {g : Fin 48} {free : List (Fin 48)} (tagged : e.kind ≠ .pw)
    (first : s.freeTags = g :: free) :
    s.install c e copyWrite change =
      State.setChannel c ((change (some g) (s.channels[c])).forming e copyWrite (some g)) { s.oneMoreInFlight e.index with
        freeTags := free, tags := s.tags.set g (channelTag c e) } := by
  rcases State.install_cases c e copyWrite change s with ⟨untagged, -⟩ | ⟨g', free', -, first', installed⟩
  · rw [first] at untagged
    exact absurd untagged (not_or.mpr ⟨tagged, List.cons_ne_nil _ _⟩)
  · obtain ⟨rfl, rfl⟩ := List.cons.inj (first.symm.trans first')
    exact installed

end

theorem State.channelCheck_kind {s : State} {q : Fin 16} {address n : Nat} {kind : RequestKind} {p : Passage}
    (passes : s.channelCheck q address n kind = .pass p) : p.kind = (s.active[p.index]).downstreamKind kind := by
  obtain ⟨-, -, downstream, -⟩ := State.regionCheck_pass (State.channelCheck_pass passes)
  exact downstream

section
variable {s : State} {c : Fin 2} {address n : Nat} {data : List Word}

theorem State.formRead_of_stop {cause : HaltCause} {index : Option (Fin 64)} {shown : Option Address}
    (stops : s.channelCheck (s.channels[c]).owner address n .rd = .stop cause index shown) (purpose : ReadPurpose)
    (offset lowers : Nat) : s.formRead c address n purpose offset lowers = s.enterDrain c cause index shown := by
  simp only [State.formRead, stops]

theorem State.formRead_of_pass {p : Passage} (passes : s.channelCheck (s.channels[c]).owner address n .rd = .pass p)
    (purpose : ReadPurpose) (offset lowers : Nat) :
    s.formRead c address n purpose offset lowers =
      s.install c (channelEntry (s.channels[c]).owner p n []) false (fun tag ch => { ch with
        readList := ch.readList ++ [{ tag := tag, purpose := purpose, offset := offset, wordCount := n }]
        wordsRemaining := ch.wordsRemaining - lowers }) := by
  simp only [State.formRead, passes]

theorem State.formWrite_of_stop {cause : HaltCause} {index : Option (Fin 64)} {shown : Option Address}
    (stops : s.channelCheck (s.channels[c]).owner address data.length .pw = .stop cause index shown) (copyWrite : Bool)
    (change : Channel → Channel) : s.formWrite c address data copyWrite change = s.enterDrain c cause index shown := by
  simp only [State.formWrite, stops]

theorem State.formWrite_of_pass {p : Passage}
    (passes : s.channelCheck (s.channels[c]).owner address data.length .pw = .pass p) (copyWrite : Bool)
    (change : Channel → Channel) :
    s.formWrite c address data copyWrite change =
      s.install c (channelEntry (s.channels[c]).owner p data.length data) copyWrite (fun _ ch => change ch) := by
  simp only [State.formWrite, passes]

end

/-- Settles O43: the checks in their order, and what a passing request leaves. -/
theorem channelRequestIsCheckedAndFormed : Obligations.ChannelRequestIsCheckedAndFormed := by
  refine ⟨fun s q address n kind => ?_, fun s c address n purpose offset lowers => ?_,
    fun s c address data copyWrite change => ?_⟩
  · intro shown check
    refine ⟨State.channelCheck_of_fenced, State.channelCheck_of_down, fun opened up => ?_⟩
    have checked : check = (s.regionCheck address n kind q).formResult shown := State.channelCheck_of_up opened up
    rw [checked]
    refine ⟨fun result => by rw [result]; rfl, fun i result => ?_, fun i result => by rw [result]; rfl,
      fun p result => by rw [result]; rfl⟩
    rcases result with result | result <;> rw [result] <;> rfl
  · intro ch check formed filled words
    refine ⟨fun cause index shown stops => ?_, fun p passes empty => ?_, fun p g free passes first => ?_⟩
    · exact State.formRead_of_stop stops purpose offset lowers
    · refine (State.formRead_of_pass passes purpose offset lowers).trans ?_
      rw [State.install_of_none _ _ (.inr empty), Channel.forming, channelEntry_eq _ _ words]
      rfl
    · have isRead : p.kind = .rd := State.channelCheck_kind passes
      have tagged : (channelEntry ch.owner p n []).kind ≠ .pw := by simp [channelEntry, isRead]
      refine (State.formRead_of_pass passes purpose offset lowers).trans ?_
      rw [State.install_of_some _ _ tagged first, Channel.forming, channelEntry_eq _ _ words]
      simp only [channelTag, channelEntry, isRead]
      rfl
  · intro ch check formed filled nonempty
    have words : 1 ≤ data.length := List.length_pos_iff.mpr nonempty
    refine ⟨fun cause index shown stops => ?_, fun p passes untagged => ?_, fun p g free passes confirmed first => ?_⟩
    · exact State.formWrite_of_stop stops copyWrite change
    · refine (State.formWrite_of_pass passes copyWrite change).trans ?_
      rw [State.install_of_none _ _ untagged, Channel.forming, channelEntry_eq _ _ words]
      rfl
    · have tagged : (channelEntry ch.owner p data.length data).kind ≠ .pw := by simp [channelEntry, confirmed]
      refine (State.formWrite_of_pass passes copyWrite change).trans ?_
      rw [State.install_of_some _ _ tagged first, Channel.forming, channelEntry_eq _ _ words]
      simp only [channelTag, channelEntry, confirmed]
      rfl

end Sys2Proof.Machine

/-! A channel finishes its descriptor, drains and halts (R99 to R101); what it forms next (R90 to R98). Settles O46 and
O44. -/
namespace Sys2Proof.Machine

/-! ### Halting -/

theorem causeBit_channelCause (c : Fin 2) : causeBit (channelCause c) = if c = 0 then 0x08#6 else 0x10#6 := by
  obtain rfl | rfl : c = 0 ∨ c = 1 := by omega
  · rfl
  · rfl

theorem State.setChannel_setChannel (s : State) (c : Fin 2) (ch new : Channel) :
    (s.setChannel c ch).setChannel c new = s.setChannel c new := by
  simp only [State.setChannel, Vector.set_set]

theorem State.haltNow_eq_halted (c : Fin 2) (ch : Channel) (s : State) : s.haltNow c ch = s.halted c ch := by
  simp only [State.haltNow, State.halted, State.raise, causeBit_channelCause, beq_iff_eq, haltFault, haltPort_eq]
  rfl

theorem State.halted_setChannel (s : State) (c : Fin 2) (ch old : Channel) :
    (s.setChannel c old).halted c ch = s.halted c ch := by
  simp only [State.halted, State.setChannel_setChannel]

section
variable {s : State} {c : Fin 2}

theorem State.haltIfEmpty_of_drain (drain : (s.channels[c]).state = .drain) :
    s.haltIfEmpty c = if (s.channels[c]).tagsHeld = [] then s.halted c (s.channels[c]) else s := by
  simp only [State.haltIfEmpty, drain, beq_self_eq_true, Bool.true_and, List.isEmpty_iff, State.haltNow_eq_halted]

theorem State.haltIfEmpty_of_not_drain (other : (s.channels[c]).state ≠ .drain) : s.haltIfEmpty c = s := by
  unfold State.haltIfEmpty
  rw [if_neg (by simp [-Fin.getElem_fin, other])]

theorem State.dropFormed_of_kept {formed : Option FormedRequest} (tagged : ∀ f, formed = some f → f.entry.tag ≠ none)
    (s : State) : s.dropFormed formed = s := by
  cases formed with
  | none => rfl
  | some f =>
    have kept : f.entry.tag.isNone = false := by simpa [Option.isSome_iff_ne_none] using tagged f rfl
    simp only [State.dropFormed, kept, Bool.false_eq_true, if_false]

theorem State.dropFormed_of_untagged {formed : Option FormedRequest} {f : FormedRequest} (filled : formed = some f)
    (untagged : f.entry.tag = none) (s : State) : s.dropFormed formed = s.fall f.entry.index f.entry.generation := by
  subst filled
  simp only [State.dropFormed, untagged, Option.isNone_none, if_true]

/-- A channel in DRAIN, put there from the record `ch`, halts when it holds no tag. -/
theorem State.setChannel_haltIfEmpty {ch : Channel} (drain : ch.state = .drain) :
    (s.setChannel c ch).haltIfEmpty c = if ch.tagsHeld = [] then s.halted c ch else s.setChannel c ch := by
  have here : (s.setChannel c ch).channels[c] = ch := State.setChannel_channel s c ch
  rw [State.haltIfEmpty_of_drain (by rw [here]; exact drain), here, State.halted_setChannel]

theorem State.enterDrain_of_running (running : (s.channels[c]).running = true) (why : HaltCause)
    (index : Option (Fin 64)) (address : Option Address) :
    s.enterDrain c why index address =
      if (s.channels[c]).tagsHeld = [] then
        (s.dropFormed (s.channels[c]).formed).halted c ((s.channels[c]).drained why index address)
      else (s.dropFormed (s.channels[c]).formed).setChannel c ((s.channels[c]).drained why index address) := by
  simp only [State.enterDrain, running, if_true]
  exact State.setChannel_haltIfEmpty rfl

theorem State.enterDrain_of_not_running (still : (s.channels[c]).running = false) (why : HaltCause)
    (index : Option (Fin 64)) (address : Option Address) : s.enterDrain c why index address = s.haltIfEmpty c := by
  simp only [State.enterDrain, still, Bool.false_eq_true, if_false]

/-! ### Finishing a descriptor -/

theorem Channel.finished_iff (ch : Channel) (d : Descriptor) :
    ch.finished d = true ↔ ch.wordsRemaining = 0 ∧ ch.readList = [] ∧ ch.writeList = [] ∧ ch.formed = none ∧
      (d.last = true → ch.tagsHeld = []) := by
  simp only [Channel.finished, Bool.and_eq_true, Bool.or_eq_true, beq_iff_eq, List.isEmpty_iff, Option.isNone_iff_eq_none,
    and_assoc]
  cases d.last <;> simp

theorem Channel.finish_of_last {d : Descriptor} (last : d.last = true) (ch : Channel) :
    ch.finish d = { ch with completed := ch.completed + 1#32, state := .idle } := if_pos last

theorem Channel.finish_of_more {d : Descriptor} (more : d.last = false) (ch : Channel) :
    ch.finish d = { ch with
      completed := ch.completed + 1#32, currentAddress := d.next, descriptor := none, state := .fetch } :=
  if_neg (by rw [more]; decide)

theorem State.finishIfDone_of_not_running (other : (s.channels[c]).state ≠ .run ∨ (s.channels[c]).descriptor = none) :
    s.finishIfDone c = s := by
  unfold State.finishIfDone
  dsimp only
  split
  next d run descriptor =>
    rw [run, descriptor] at other
    exact absurd other (by simp)
  · rfl

theorem State.finishIfDone_of_run {d : Descriptor} (run : (s.channels[c]).state = .run)
    (descriptor : (s.channels[c]).descriptor = some d) :
    s.finishIfDone c =
      if (s.channels[c]).finished d = true then
        if (d.last || d.notify) = true then (s.setChannel c ((s.channels[c]).finish d)).raise (channelCause c)
        else s.setChannel c ((s.channels[c]).finish d)
      else s := by
  simp only [State.finishIfDone, run, descriptor]

end

/-- Settles O46: finishing, draining and halting. -/
theorem channelFinishesAndDrains : Obligations.ChannelFinishesAndDrains := by
  intro s c ch cause
  have bit : causeBit (channelCause c) = cause := causeBit_channelCause c
  refine ⟨rfl, State.finishIfDone_of_not_running, fun d run descriptor => ?_, fun why index address => ?_⟩
  · intro done
    have weighed := State.finishIfDone_of_run run descriptor
    have finished : ch.finished d = true ↔ done := ch.finished_iff d
    refine ⟨fun notDone => ?_, fun isDone last => ?_, fun isDone more => ?_⟩
    · rw [weighed, if_neg ((not_congr finished).mpr notDone)]
    · rw [weighed, if_pos (finished.mpr isDone), last, Bool.true_or, if_pos rfl, Channel.finish_of_last last,
        State.raise, bit]
      rfl
    · rw [weighed, if_pos (finished.mpr isDone), Channel.finish_of_more more, more, Bool.false_or, State.raise, bit]
      split <;> rfl
  · intro gone running
    have drains := State.enterDrain_of_running running why index address
    refine ⟨fun tagged => ?_, fun f formed untagged => ?_, fun drain => ?_, fun still => ?_⟩
    · rw [drains, State.dropFormed_of_kept tagged]
      rfl
    · rw [drains, State.dropFormed_of_untagged formed untagged]
      rfl
    · exact absurd running (by simp [-Fin.getElem_fin, Channel.running, ch, drain])
    · exact absurd running (by rcases still with still | still <;> simp [-Fin.getElem_fin, Channel.running, ch, still])

/-! ### The fields of a descriptor (Table 12-9) -/

theorem bits_zero (w : Word) (width : Nat) : bits w 0 width = w.toNat % 2 ^ width := rfl

theorem Descriptor.next_toNat (d : Descriptor) :
    d.next.toNat = d.w0.toNat / 2 ^ 16 % 16 * 2 ^ 32 + d.w7.toNat := by
  rw [Descriptor.next, BitVec.toNat_append, BitVec.extractLsb'_toNat, ← Nat.shiftLeft_add_eq_or_of_lt d.w7.isLt,
    Nat.shiftLeft_eq, Nat.shiftRight_eq_div_pow]

/-! ### What is due -/

section
variable {s : State} {c : Fin 2}

theorem State.formNext_of_full (full : (s.channels[c]).formed ≠ none) : s.formNext c = s := by
  simp only [State.formNext, Option.isSome_iff_ne_none.mpr full, if_true]

theorem State.formNext_of_not_running (still : (s.channels[c]).running = false) : s.formNext c = s := by
  cases state : (s.channels[c]).state with
  | fetch => exact absurd (still.symm.trans ((Channel.running_iff _).mpr (.inl state))) (by decide)
  | run => exact absurd (still.symm.trans ((Channel.running_iff _).mpr (.inr state))) (by decide)
  | idle => simp only [State.formNext, state, ite_self]
  | drain => simp only [State.formNext, state, ite_self]
  | halted => simp only [State.formNext, state, ite_self]

theorem State.formNext_of_fetch (empty : (s.channels[c]).formed = none) (fetch : (s.channels[c]).state = .fetch) :
    s.formNext c = s.formFetch c := by
  simp only [State.formNext, empty, Option.isSome_none, Bool.false_eq_true, if_false, fetch]

theorem State.formNext_of_run {d : Descriptor} (empty : (s.channels[c]).formed = none)
    (run : (s.channels[c]).state = .run) (descriptor : (s.channels[c]).descriptor = some d) :
    s.formNext c = s.formRun c d := by
  simp only [State.formNext, empty, Option.isSome_none, Bool.false_eq_true, if_false, run, descriptor]

theorem Channel.room_of_empty {ch : Channel} (running : ch.running = true) (empty : ch.formed = none) :
    ch.room = 64 - ((ch.readList.map ReadItem.wordCount).sum + (ch.writeList.map (fun i => i.data.length)).sum) := by
  simp only [Channel.room, Channel.reserved, running, if_true, empty, Nat.add_zero, Config.channelBuffer]

theorem Channel.readMayForm_iff (ch : Channel) (n : Nat) :
    ch.readMayForm n = true ↔ ch.tagsHeld.length < 4 ∧ n ≤ ch.room := by
  simp only [Channel.readMayForm, Bool.and_eq_true, decide_eq_true_eq, Config.channelTags]

theorem State.writeMayTakeTag_iff (address : Nat) :
    s.writeMayTakeTag c address = true ↔
      ∀ r, lookup s.active (address / 4096) = some r →
        (s.active[r]).mode = .posted ∨ (s.channels[c]).tagsHeld.length < 4 := by
  have page : pageOf address = address / 4096 := rfl
  unfold State.writeMayTakeTag
  rw [page]
  cases lookup s.active (address / 4096) with
  | none => simp
  | some r => simp [-Fin.getElem_fin, Config.channelTags]

theorem State.formFetch_eq :
    s.formFetch c =
      if (s.channels[c]).readList = [] ∧ (s.channels[c]).readMayForm 8 = true then
        s.formRead c (s.channels[c]).currentAddress.toNat 8 .fetch 0 0
      else s := by
  simp only [State.formFetch, Bool.and_eq_true, List.isEmpty_iff]

theorem State.formRun_of_write {d : Descriptor} {item : WriteItem} {rest : List WriteItem}
    (oldest : (s.channels[c]).writeList = item :: rest)
    (may : s.writeMayTakeTag c (d.destination + 4 * item.offset) = true) :
    s.formRun c d = s.formWrite c (d.destination + 4 * item.offset) item.data true (fun ch => { ch with writeList := rest }) := by
  simp only [State.formRun, oldest, may, if_true]

theorem State.formRun_of_chunk {d : Descriptor} (blocked : ∀ item ∈ (s.channels[c]).writeList.head?,
      s.writeMayTakeTag c (d.destination + 4 * item.offset) = false) : s.formRun c d = s.formChunk c d := by
  cases oldest : (s.channels[c]).writeList with
  | nil => simp only [State.formRun, oldest]
  | cons item rest =>
    have held := blocked item (by rw [oldest]; rfl)
    simp only [State.formRun, oldest, held, Bool.false_eq_true, if_false]

theorem State.formChunk_of_done (done : (s.channels[c]).wordsRemaining = 0) (d : Descriptor) : s.formChunk c d = s :=
  if_pos done

theorem State.formChunk_of_read (left : 1 ≤ (s.channels[c]).wordsRemaining) {d : Descriptor} (op : d.op = 0 ∨ d.op = 2) :
    let n := min 16 (s.channels[c]).wordsRemaining
    let offset := d.wordCount - (s.channels[c]).wordsRemaining
    s.formChunk c d =
      if (s.channels[c]).readMayForm n = true then
        s.formRead c (d.source + 4 * offset) n (if d.op = 0 then .copy else .scan) offset n
      else s := by
  intro n offset
  unfold State.formChunk
  dsimp only
  rw [if_neg (by omega)]
  rcases op with op | op <;> rw [op] <;> rfl

theorem State.formChunk_of_fill (left : 1 ≤ (s.channels[c]).wordsRemaining) {d : Descriptor} (op : d.op = 1) :
    let n := min 16 (s.channels[c]).wordsRemaining
    let offset := d.wordCount - (s.channels[c]).wordsRemaining
    s.formChunk c d =
      if s.writeMayTakeTag c (d.destination + 4 * offset) = true then
        s.formWrite c (d.destination + 4 * offset) (List.replicate n d.fillWord) false
          (fun ch => { ch with wordsRemaining := ch.wordsRemaining - n })
      else s := by
  intro n offset
  unfold State.formChunk
  dsimp only
  rw [if_neg (by omega), op]
  rfl

end

/-- Settles O44: the fetch, the oldest write, then the next chunk. -/
theorem channelFormsWhatIsDue : Obligations.ChannelFormsWhatIsDue := by
  refine ⟨fun d => ⟨rfl, rfl, rfl, rfl, rfl, rfl, rfl, rfl, d.next_toNat⟩, fun s c => ?_⟩
  intro ch room ready
  have mayTake (address : Nat) : s.writeMayTakeTag c address = true ↔ ready address := State.writeMayTakeTag_iff address
  have reads (empty : ch.formed = none) (running : ch.running = true) (n : Nat) :
      ch.readMayForm n = true ↔ ch.tagsHeld.length < 4 ∧ n ≤ room := by
    rw [Channel.readMayForm_iff, Channel.room_of_empty running empty]
  refine ⟨?_, fun empty fetch => ?_, fun d empty run descriptor => ?_⟩
  · rintro (full | still)
    · exact State.formNext_of_full full
    · exact State.formNext_of_not_running still
  · have weighs := reads empty ((Channel.running_iff ch).mpr (.inl fetch)) 8
    rw [State.formNext_of_fetch empty fetch, State.formFetch_eq]
    refine ⟨fun nothing few fits => if_pos ⟨nothing, weighs.mpr ⟨few, fits⟩⟩, fun not => if_neg ?_⟩
    rintro ⟨nothing, may⟩
    obtain ⟨few, fits⟩ := weighs.mp may
    rcases not with filled | many | tight
    · exact filled nothing
    · omega
    · omega
  · intro n offset
    rw [State.formNext_of_run empty run descriptor]
    refine ⟨fun item rest oldest may => State.formRun_of_write oldest ((mayTake _).mpr may), fun blocked => ?_⟩
    rw [State.formRun_of_chunk fun item first => Bool.eq_false_iff.mpr ((not_congr (mayTake _)).mpr (blocked item first))]
    refine ⟨fun done => State.formChunk_of_done done d, fun left op => ?_, fun left op => ?_⟩
    · have weighs := reads empty ((Channel.running_iff ch).mpr (.inr run)) n
      rw [State.formChunk_of_read left op]
      refine ⟨fun few fits => if_pos (weighs.mpr ⟨few, fits⟩), fun not => if_neg fun may => ?_⟩
      obtain ⟨few, fits⟩ := weighs.mp may
      rcases not with many | tight
      · omega
      · omega
    · rw [State.formChunk_of_fill left op]
      exact ⟨fun may => if_pos ((mayTake _).mpr may), fun not => if_neg ((not_congr (mayTake _)).mpr not)⟩

end Sys2Proof.Machine

/-! The arbiter's grants and the digests (R78 to R83, R107). Settles O33 and O34. -/
namespace Sys2Proof.Machine

/-! ### The word value a digest absorbs -/

theorem getLsbD_laneMask (b : Bool) (mask : Word) (i : Nat) :
    (if b then mask else 0#32).getLsbD i = (b && mask.getLsbD i) := by
  cases b <;> simp

theorem getLsbD_maskLanes (enables : BitVec 4) (w : Word) (i : Fin 32) :
    (maskLanes enables w).getLsbD i.val = (w.getLsbD i.val && enables.getLsbD (i.val / 8)) := by
  have lanes : ∀ i : Fin 32,
      (0x000000FF#32).getLsbD i.val = (i.val / 8 == 0) ∧ (0x0000FF00#32).getLsbD i.val = (i.val / 8 == 1) ∧
      (0x00FF0000#32).getLsbD i.val = (i.val / 8 == 2) ∧ (0xFF000000#32).getLsbD i.val = (i.val / 8 == 3) := by
    decide
  obtain ⟨lane0, lane1, lane2, lane3⟩ := lanes i
  have bound : i.val / 8 < 4 := by omega
  simp only [maskLanes, BitVec.getLsbD_and, BitVec.getLsbD_or, getLsbD_laneMask, lane0, lane1, lane2, lane3]
  have lane : i.val / 8 = 0 ∨ i.val / 8 = 1 ∨ i.val / 8 = 2 ∨ i.val / 8 = 3 := by omega
  rcases lane with lane | lane | lane | lane <;> simp [lane]

theorem sumAfterFirst_concat (last : BitVec 4) (middle : List Word) (z : Word) :
    sumAfterFirst last (middle ++ [z]) = middle.foldl (· + ·) 0#32 + maskLanes last z := by
  induction middle with
  | nil => simp [sumAfterFirst]
  | cons w rest ih =>
    have summed : sumAfterFirst last (w :: (rest ++ [z])) = w + sumAfterFirst last (rest ++ [z]) := by
      cases rest <;> rfl
    rw [List.cons_append, summed, ih, List.foldl_cons, BitVec.add_comm 0#32 w, List.foldl_assoc, BitVec.add_assoc]

/-- Settles O34: the lanes that are off count as zero. -/
theorem digestSumMasksLanes : Obligations.DigestSumMasksLanes :=
  ⟨getLsbD_maskLanes, fun first last w => BitVec.add_zero _, fun first last w z middle => by
    rw [List.cons_append, maskedSum, sumAfterFirst_concat, BitVec.add_assoc]⟩

/-! ### The arbiter -/

theorem LinkPort.canSend_iff (l : LinkPort) : l.canSend = true ↔ l.ready := by
  simp only [LinkPort.canSend, LinkPort.ready, Bool.and_eq_true, beq_iff_eq, decide_eq_true_eq, Option.isNone_iff_eq_none,
    Config.replaySlots, and_assoc]

theorem Channel.candidate_eq (ch : Channel) :
    ch.candidate = ((ch.formed.map FormedRequest.entry).filter (fun e => e.kind == .pw || e.tag.isSome)).isSome := by
  cases formed : ch.formed with
  | none => simp only [Channel.candidate, formed]; rfl
  | some f =>
    have lacks : (!f.lacksTag) = (f.entry.kind == .pw || f.entry.tag.isSome) := by
      cases tag : f.entry.tag <;> simp [FormedRequest.lacksTag, tag, bne]
    simp only [Channel.candidate, formed, lacks, Option.map_some, Option.filter_some]
    split <;> simp_all

theorem State.candidatePresent_eq (s : State) (place : Candidate) : s.candidatePresent place = (s.offer place).isSome := by
  cases place with
  | queue => cases queue : s.issueQueue <;> simp [State.candidatePresent, State.offer, queue]
  | channel0 => exact Channel.candidate_eq _
  | channel1 => exact Channel.candidate_eq _

theorem State.nextGrant_eq (s : State) :
    s.nextGrant = (grantOrder s.lastGranted).find? (fun place => (s.offer place).isSome) := by
  have order : rotation s.lastGranted = grantOrder s.lastGranted := by cases s.lastGranted <;> rfl
  rw [State.nextGrant, order]
  exact congrArg (List.find? · _) (funext s.candidatePresent_eq)

/-! ### What a granted request leaves -/

theorem State.absorb_eq (e : IssueEntry) (writer : Writer) (s : State) :
    s.absorb e writer = { s with digests := s.digestsAfter e writer } := by
  have absorbs : (e.kind != .rd && (s.active[e.index]).digest) = true ↔
      e.kind ≠ .rd ∧ (s.active[e.index]).digest = true := by simp [-Fin.getElem_fin]
  unfold State.absorb State.digestsAfter
  by_cases taken : e.kind ≠ .rd ∧ (s.active[e.index]).digest = true
  · rw [if_pos (absorbs.mpr taken), if_pos taken]
    rfl
  · rw [if_neg ((not_congr absorbs).mpr taken), if_neg taken]

theorem LinkPort.sent_eq_afterSending (l : LinkPort) (packet : List Word) (now : Word) :
    l.sent (wrapUnit l.nextSeq packet) now = l.afterSending packet now := by
  simp only [LinkPort.sent, LinkPort.afterSending, List.isEmpty_iff, Config.ackTime]

theorem State.sendPacket_d_eq (packet : List Word) (s : State) :
    s.sendPacket .d packet = { s with
      dPort := s.dPort.afterSending packet s.timeBase
      wire := s.wire ++ [.unit .d (unitBytes (wrapUnit s.dPort.nextSeq packet))] } := by
  rw [← LinkPort.sent_eq_afterSending]
  rfl

theorem State.issue_eq_issued {s : State} {e : IssueEntry} (queued : ∀ g, e.tag = some g → (s.tags[g]).state = .queued)
    (writer : Writer) : s.issue e writer = s.issued e writer := by
  unfold State.issue State.issued
  rw [State.sendPacket_d_eq, State.absorb_eq]
  cases tag : e.tag with
  | none => simp only [State.settleIssue, tag]; rfl
  | some g =>
    simp only [State.settleIssue, tag]
    exact State.issueTag_of_queued (queued g tag)

/-- The place of a channel's candidate (Table 5-2). -/
def channelPlace (c : Fin 2) : Candidate := if c = 0 then .channel0 else .channel1

theorem State.grant_of_queue {s : State} (can : s.dPort.canSend = true) (next : s.nextGrant = some .queue) :
    s.grant = s.grantQueue := by
  simp only [State.grant, can, if_true, next]

theorem State.grant_of_channel {s : State} {c : Fin 2} (can : s.dPort.canSend = true)
    (next : s.nextGrant = some (channelPlace c)) : s.grant = s.grantChannel c (channelPlace c) := by
  obtain rfl | rfl : c = 0 ∨ c = 1 := by omega
  · replace next : s.nextGrant = some .channel0 := next
    simp only [State.grant, can, if_true, next]
    rfl
  · replace next : s.nextGrant = some .channel1 := next
    simp only [State.grant, can, if_true, next]
    rfl

theorem State.grant_of_none {s : State} (next : s.nextGrant = none) : s.grant = s := by
  simp only [State.grant, next, ite_self]

theorem State.grant_of_not_ready {s : State} (not : ¬s.dPort.ready) : s.grant = s :=
  if_neg ((not_congr (LinkPort.canSend_iff _)).mpr not)

theorem State.formed_of_offer {s : State} {c : Fin 2} {e : IssueEntry} (offered : s.offer (channelPlace c) = some e) :
    ∃ f : FormedRequest, (s.channels[c]).formed = some f ∧ f.entry = e := by
  have entry : ((s.channels[c]).formed.map FormedRequest.entry).filter (fun e => e.kind == .pw || e.tag.isSome) = some e := by
    obtain rfl | rfl : c = 0 ∨ c = 1 := by omega
    · exact offered
    · exact offered
  obtain ⟨held, -⟩ := Option.filter_eq_some_iff.mp entry
  exact Option.map_eq_some_iff.mp held

theorem State.grantChannel_of_formed {s : State} {c : Fin 2} {f : FormedRequest} (formed : (s.channels[c]).formed = some f)
    (place : Candidate) :
    s.grantChannel c place = State.advance c (State.issue f.entry (.channel c)
      (State.setChannel c { s.channels[c] with formed := none } { s with lastGranted := place })) := by
  simp only [State.grantChannel, formed]

/-- Settles O33: a grant goes to the first place in rotation that offers a request. -/
theorem grantGoesInRotation : Obligations.GrantGoesInRotation := by
  intro s
  refine ⟨fun blocked => congrArg _ (State.grant_of_not_ready ?_), fun ready => ⟨fun place e next offered queued => ?_,
    fun nothing => congrArg _ (State.grant_of_none (s.nextGrant_eq.trans nothing))⟩⟩
  · rintro ⟨up, credit, room, idle⟩
    rcases blocked with other | none | full | replaying
    · exact other up
    · omega
    · omega
    · exact replaying idle
  have can : s.dPort.canSend = true := (LinkPort.canSend_iff _).mpr ready
  replace next : s.nextGrant = some place := s.nextGrant_eq.trans next
  refine ⟨fun isQueue => ?_, fun c isChannel => ?_⟩
  · subst isQueue
    intro t
    obtain ⟨rest, queue⟩ : ∃ rest, s.issueQueue = e :: rest := by
      cases queue : s.issueQueue with
      | nil => simp [State.offer, queue] at offered
      | cons x rest =>
        obtain rfl : x = e := by simpa [State.offer, queue] using offered
        exact ⟨rest, rfl⟩
    have issued := State.issue_eq_issued (s := { s with issueQueue := rest, lastGranted := .queue }) queued (.requester e.requester)
    have left : t = State.issued e (.requester e.requester) { s with issueQueue := rest, lastGranted := .queue } := by
      simp only [t, queue, List.tail_cons]
    have granted : s.grantQueue = State.noteIssueSlot t := by
      simp only [State.grantQueue, queue, issued, left]
    exact congrArg _ ((State.grant_of_queue can next).trans granted)
  · subst isChannel
    obtain ⟨f, formed, rfl⟩ := State.formed_of_offer offered
    have issued := State.issue_eq_issued (s := { s with
      channels := s.channels.set c { s.channels[c] with formed := none }, lastGranted := channelPlace c }) queued (.channel c)
    have granted := (State.grantChannel_of_formed formed (channelPlace c)).trans (congrArg (State.advance c) issued)
    exact congrArg _ ((State.grant_of_channel can next).trans granted)

end Sys2Proof.Machine

/-! The admission unit (R30 to R46): which requests are well formed, the ordered verdict, and the event that carries it
out. Settles O35, O36, O37 and O38. -/
namespace Sys2Proof.Machine

/-! ### Well-formed requests (R30) -/

theorem requestKind_eq_none_iff (code : Nat) : requestKind code = none ↔ 3 ≤ code := by
  match code with
  | 0 => simp [requestKind]
  | 1 => simp [requestKind]
  | 2 => simp [requestKind]
  | n + 3 => simp [requestKind]

theorem requestKind_eq_some_iff (code : Nat) (kind : RequestKind) : requestKind code = some kind ↔ code = kindCode kind := by
  cases kind <;> unfold requestKind kindCode <;> split <;> simp_all

theorem kindCode_eq_zero_iff (kind : RequestKind) : kindCode kind = 0 ↔ kind = .rd := by
  cases kind <;> simp [kindCode]

theorem kindCode_eq_one_iff (kind : RequestKind) : kindCode kind = 1 ↔ kind = .pw := by
  cases kind <;> simp [kindCode]

theorem kindCode_eq_two_iff (kind : RequestKind) : kindCode kind = 2 ↔ kind = .cw := by
  cases kind <;> simp [kindCode]

theorem dataSuits_iff (kind : RequestKind) (n : Nat) (data : List Word) :
    dataSuits kind n data = true ↔ (kind = .rd → data = []) ∧ (kind ≠ .rd → data.length = n) := by
  cases kind <;> simp [dataSuits]

theorem enablesOk_iff (n : Nat) (first last : BitVec 4) :
    enablesOk n first last = true ↔ first ≠ 0#4 ∧ (n = 1 → last = 0#4) ∧ (n ≠ 1 → last ≠ 0#4) := by
  by_cases one : n = 1 <;> simp [enablesOk, one]

/-- The tests of R30 on the fields of a request of a known kind that carries an address. -/
def Request.sound (r : Request) (kind : RequestKind) (address : Address) : Prop :=
  1 ≤ r.wordCount ∧ r.wordCount ≤ 16 ∧ dataSuits kind r.wordCount r.data = true ∧
    enablesOk r.wordCount r.firstEnables r.lastEnables = true ∧ address.toNat + 4 * r.wordCount - 1 < 2 ^ 36

theorem wellFormedRequest_eq_some_iff (r : Request) (kind : RequestKind) (address : Address) :
    wellFormedRequest r = some (kind, address) ↔
      requestKind r.kindCode = some kind ∧ r.address = some address ∧ r.sound kind address := by
  unfold wellFormedRequest Request.sound
  cases requestKind r.kindCode with
  | none => simp
  | some k =>
    cases r.address with
    | none => simp
    | some a =>
      simp only [Bool.and_eq_true, decide_eq_true_eq, Option.ite_none_right_eq_some, Option.some.injEq, Prod.mk.injEq,
        and_assoc]
      constructor
      · rintro ⟨least, most, suits, enables, range, rfl, rfl⟩
        exact ⟨rfl, rfl, least, most, suits, enables, range⟩
      · rintro ⟨rfl, rfl, least, most, suits, enables, range⟩
        exact ⟨least, most, suits, enables, range, rfl, rfl⟩

theorem wellFormedRequest_eq_none_iff_not_sound (r : Request) :
    wellFormedRequest r = none ↔
      requestKind r.kindCode = none ∨ r.address = none ∨
        ∃ kind address, requestKind r.kindCode = some kind ∧ r.address = some address ∧ ¬r.sound kind address := by
  unfold wellFormedRequest Request.sound
  cases requestKind r.kindCode with
  | none => simp
  | some k =>
    cases r.address with
    | none => simp
    | some a => simp [and_assoc]

/-- The tests of R30 that fail, one by one. -/
theorem Request.not_sound_iff (r : Request) (kind : RequestKind) (address : Address) :
    ¬r.sound kind address ↔
      r.wordCount = 0 ∨ 16 < r.wordCount ∨ (kind = .rd ∧ r.data ≠ []) ∨ (kind ≠ .rd ∧ r.data.length ≠ r.wordCount) ∨
        r.firstEnables = 0x0#4 ∨ (r.wordCount = 1 ∧ r.lastEnables ≠ 0x0#4) ∨
        (r.wordCount ≠ 1 ∧ r.lastEnables = 0x0#4) ∨ 0xFFFFFFFFF < address.toNat + 4 * r.wordCount - 1 := by
  have range : address.toNat + 4 * r.wordCount - 1 < 2 ^ 36 ↔ ¬0xFFFFFFFFF < address.toNat + 4 * r.wordCount - 1 := by omega
  have least : 1 ≤ r.wordCount ↔ ¬r.wordCount = 0 := by omega
  rw [Request.sound, dataSuits_iff, enablesOk_iff, range, least]
  simp only [Classical.not_and_iff_not_or_not, Classical.not_imp, Nat.not_le, Classical.not_not, ne_eq, or_assoc]

theorem wellFormedRequest_eq_none_iff (r : Request) :
    wellFormedRequest r = none ↔
      3 ≤ r.kindCode ∨ r.wordCount = 0 ∨ 16 < r.wordCount ∨ (r.kindCode = 0 ∧ r.data ≠ []) ∨
        ((r.kindCode = 1 ∨ r.kindCode = 2) ∧ r.data.length ≠ r.wordCount) ∨ r.firstEnables = 0x0#4 ∨
        (r.wordCount = 1 ∧ r.lastEnables ≠ 0x0#4) ∨ (1 < r.wordCount ∧ r.lastEnables = 0x0#4) ∨ r.address = none ∨
        (∃ a, r.address = some a ∧ 0xFFFFFFFFF < a.toNat + 4 * r.wordCount - 1) := by
  rw [wellFormedRequest_eq_none_iff_not_sound, requestKind_eq_none_iff]
  cases known : requestKind r.kindCode with
  | none =>
    have beyond : 3 ≤ r.kindCode := (requestKind_eq_none_iff _).mp known
    exact ⟨fun _ => .inl beyond, fun _ => .inl beyond⟩
  | some kind =>
    have code : r.kindCode = kindCode kind := (requestKind_eq_some_iff _ _).mp known
    have isRead : r.kindCode = 0 ↔ kind = .rd := by rw [code, kindCode_eq_zero_iff]
    have isWrite : r.kindCode = 1 ∨ r.kindCode = 2 ↔ kind ≠ .rd := by
      rw [code, kindCode_eq_one_iff, kindCode_eq_two_iff]
      cases kind <;> decide
    cases address : r.address with
    | none => simp
    | some a =>
      have several : r.wordCount = 0 ∨ (r.wordCount ≠ 1 ↔ 1 < r.wordCount) := by omega
      simp only [Option.some.injEq, exists_and_left, exists_eq_left', reduceCtorEq, false_or, isRead, isWrite,
        Request.not_sound_iff]
      rcases several with zero | several
      · exact ⟨fun _ => .inr (.inl zero), fun _ => .inr (.inl zero)⟩
      · rw [several]

/-! ### The event that carries a verdict out (R37, R45) -/

section
variable {s : State} {packet : List Word} {rest : List (List Word)}

theorem State.admissionBlocked_eq_false (again : ∀ w ∈ s.admissionWait, w.again = true) : s.admissionBlocked = false := by
  cases wait : s.admissionWait with
  | none => simp only [State.admissionBlocked, wait]
  | some w => simp only [State.admissionBlocked, wait, again w wait, Bool.not_true]

theorem State.dequeueU_of_head (head : s.uPort.inbound = packet :: rest) : s.dequeueU = s.headOffU rest := by
  simp only [State.dequeueU, State.headOffU, head, List.drop_one, List.tail_cons]

theorem State.admission_of_admits (admits : s.admits packet rest) : s.admission = s.evaluate (readRequest packet) := by
  obtain ⟨-, head, isRequest, again⟩ := admits
  simp only [State.admission, head, State.admissionBlocked_eq_false again, Bool.false_eq_true, if_false, isRequest, if_true]

/-- A verdict that finds its resources is carried out once the packet has left the buffer. -/
theorem exec_admission_of_verdict (admits : s.admits packet rest) {v : Verdict}
    (verdict : s.verdict (readRequest packet) = v) (complete : (s.lacks (readRequest packet) v).any = false) :
    exec .admissionEvaluate s = .next ((s.headOffU rest).carryOut (readRequest packet) v) := by
  have evaluated : s.evaluate (readRequest packet) = s.dequeueU.carryOut (readRequest packet) v := by
    simp only [State.evaluate, verdict, complete, Bool.false_eq_true, if_false]
  rw [State.dequeueU_of_head admits.2.1] at evaluated
  exact congrArg _ ((State.admission_of_admits admits).trans evaluated)

/-- A verdict that lacks a resource leaves the note of what it lacks. -/
theorem exec_admission_of_lacking (admits : s.admits packet rest) {v : Verdict}
    (verdict : s.verdict (readRequest packet) = v) (lacking : (s.lacks (readRequest packet) v).any = true) :
    exec .admissionEvaluate s = .next { s with admissionWait := some (s.lacks (readRequest packet) v) } := by
  have evaluated : s.evaluate (readRequest packet) =
      { s with admissionWait := some (s.lacks (readRequest packet) v) } := by
    simp only [State.evaluate, verdict, lacking, if_true]
  exact congrArg _ ((State.admission_of_admits admits).trans evaluated)

theorem State.replySlot_of_up (up : s.uPort.state = .up) : s.replySlot = decide (s.replyQueue.length < 32) := by
  simp only [State.replySlot, up, bne_self_eq_false, Bool.false_or, Config.replySlots]

end

theorem Request.posted_iff (r : Request) : r.posted = true ↔ r.kindCode = 1 := by
  rw [Request.posted, beq_iff_eq, requestKind_eq_some_iff]
  rfl

/-! ### A refusal (R30, R36) -/

theorem State.refuse_of_up {s : State} (up : s.uPort.state = .up) (r : Request) (status : Status) (fault : FaultReport) :
    s.refuse r status fault = s.turnedDown r status fault := by
  have counted : (s.takeFault fault).updateRequester r.requester (fun x => { x with refused := x.refused + 1#32 }) =
      { s.takeFault fault with
        requesters := s.requesters.set r.requester
          { s.requesters[r.requester] with refused := (s.requesters[r.requester]).refused + 1#32 } } := by
    rw [State.takeFault_frame]
    rfl
  have stillUp : (s.takeFault fault).uPort.state = .up := by rw [State.takeFault_frame]; exact up
  have queue : (s.takeFault fault).replyQueue = s.replyQueue := by rw [State.takeFault_frame]
  unfold State.refuse State.turnedDown
  dsimp only
  rw [counted]
  by_cases posted : r.kindCode = 1
  · rw [if_pos (r.posted_iff.mpr posted), if_pos posted, List.append_nil, ← queue]
  · rw [if_neg ((not_congr r.posted_iff).mpr posted), if_neg posted, State.placeReply_up, ← queue]
    exact stillUp

section
variable {s : State} {packet : List Word} {rest : List (List Word)}

theorem exec_admission_of_refuse (admits : s.admits packet rest) {status : Status} {fault : FaultReport}
    (verdict : s.verdict (readRequest packet) = .refuse status fault)
    (slot : (readRequest packet).kindCode ≠ 1 → s.replyQueue.length < 32) :
    exec .admissionEvaluate s = .next ((s.headOffU rest).turnedDown (readRequest packet) status fault) := by
  have complete : (s.lacks (readRequest packet) (.refuse status fault)).any = false := by
    simp only [State.lacks, Verdict.needsReply, Verdict.needsIssue, Verdict.needsTag, AdmissionWait.any,
      State.replySlot_of_up admits.1, Bool.false_and, Bool.or_false, Bool.and_eq_false_iff, Bool.not_eq_false',
      decide_eq_true_eq]
    by_cases posted : (readRequest packet).kindCode = 1
    · exact .inl ((Request.posted_iff _).mpr posted)
    · exact .inr (slot posted)
  rw [exec_admission_of_verdict admits verdict complete]
  exact congrArg _ (State.refuse_of_up (s := s.headOffU rest) admits.1 _ _ _)

end

/-! ### The ordered verdict (R38 to R44) -/

theorem aperturePage_le_iff (address : Nat) : Config.aperturePage ≤ pageOf address ↔ 0xFFFFF0000 ≤ address := by
  have page : pageOf address = address / 4096 := rfl
  rw [page]
  simp only [Config.aperturePage]
  omega

section
variable {s : State} {r : Request} {kind : RequestKind} {address : Address}

theorem State.verdict_of_malformed (malformed : wellFormedRequest r = none) :
    s.verdict r = .refuse .malformed (faultAt .u .malformed r none) := by
  simp only [State.verdict, malformed]
  rfl

theorem State.verdict_of_fenced (sound : wellFormedRequest r = some (kind, address))
    (fenced : (s.requesters[r.requester]).state = .fenced) :
    s.verdict r = .refuse .refused (faultAt .u .fenced r none) := by
  simp only [State.verdict, sound, fenced, beq_self_eq_true, if_true]
  rfl

theorem State.verdict_of_aperture (sound : wellFormedRequest r = some (kind, address))
    (opened : (s.requesters[r.requester]).state = .opened) (inside : 0xFFFFF0000 ≤ address.toNat) :
    s.verdict r =
      if !(s.requesters[r.requester]).right then .refuse .refused (faultAt .u .mgmtDenied r none)
      else if !r.oneWord then .refuse .malformed (faultAt .u .malformed r none)
      else .management kind (address.toNat - 0xFFFFF0000) := by
  have state : ((s.requesters[r.requester]).state == .fenced) = false := by rw [opened]; rfl
  simp only [State.verdict, sound, state, Bool.false_eq_true, if_false, (aperturePage_le_iff _).mpr inside, if_true]
  rfl

theorem State.verdict_of_traffic (sound : wellFormedRequest r = some (kind, address))
    (opened : (s.requesters[r.requester]).state = .opened) (below : address.toNat < 0xFFFFF0000) :
    s.verdict r = s.judgeTraffic r kind address := by
  have state : ((s.requesters[r.requester]).state == .fenced) = false := by rw [opened]; rfl
  have outside : ¬Config.aperturePage ≤ pageOf address.toNat :=
    (not_congr (aperturePage_le_iff _)).mpr (Nat.not_le.mpr below)
  simp only [State.verdict, sound, state, Bool.false_eq_true, if_false, outside]

theorem State.judgeTraffic_of_down (down : s.dPort.state ≠ .up) :
    s.judgeTraffic r kind address = .refuse .linkDown (faultAt .d .linkDown r none) := by
  unfold State.judgeTraffic
  rw [if_pos (by simpa using down)]
  rfl

/-- What a region check makes of a request below the aperture (R42 to R44). -/
def CheckResult.verdict (s : State) (r : Request) (kind : RequestKind) : CheckResult → Verdict
  | .miss => .refuse .refused (faultAt .u .noRegion r none)
  | .span i => .refuse .refused (faultAt .u .span r (some i))
  | .permission i => .refuse .refused (faultAt .u .permission r (some i))
  | .paused i => .refuse .paused (faultAt .u .paused r (some i))
  | .pass p =>
    if kind ≠ .pw ∧ (s.requesters[r.requester]).limit ≤ (s.requesters[r.requester]).outstanding then .retry
    else .forward kind p

theorem State.judgeTraffic_of_up (up : s.dPort.state = .up) :
    s.judgeTraffic r kind address =
      (s.regionCheck address.toNat r.wordCount kind r.requester).verdict s r kind := by
  unfold State.judgeTraffic
  rw [if_neg (by simp [up])]
  cases s.regionCheck address.toNat r.wordCount kind r.requester with
  | miss => rfl
  | span i => rfl
  | permission i => rfl
  | paused i => rfl
  | pass p => simp only [CheckResult.verdict, Bool.and_eq_true, bne_iff_ne, decide_eq_true_eq]

end

/-- Settles O35: the tests of R30, and the refusal they lead to. -/
theorem malformedRequestsAreRefused : Obligations.MalformedRequestsAreRefused := by
  refine ⟨wellFormedRequest_eq_none_iff, fun s packet rest admits => ?_⟩
  intro r malformed slot
  exact exec_admission_of_refuse admits (State.verdict_of_malformed malformed) slot

theorem Request.posted_iff_kind {r : Request} {kind : RequestKind} {address : Address}
    (sound : wellFormedRequest r = some (kind, address)) : r.kindCode = 1 ↔ kind = .pw := by
  obtain ⟨known, -, -⟩ := (wellFormedRequest_eq_some_iff _ _ _).mp sound
  rw [(requestKind_eq_some_iff _ _).mp known, kindCode_eq_one_iff]

/-- Settles O36: the refusals in the order of Table 3-3. -/
theorem refusalsGoInOrder : Obligations.RefusalsGoInOrder := by
  intro s packet rest admits r q down kind address sound slot
  have refused {status : Status} {fault : FaultReport} (verdict : s.verdict r = .refuse status fault) :
      down status fault :=
    exec_admission_of_refuse admits verdict fun notPosted => slot ((not_congr (Request.posted_iff_kind sound)).mp notPosted)
  refine ⟨fun fenced => refused (State.verdict_of_fenced sound fenced), fun opened inside => ?_, fun opened below => ?_⟩
  · have verdict := State.verdict_of_aperture sound opened inside
    refine ⟨fun noRight => refused (verdict.trans (if_pos ?_)), fun right wide => refused (verdict.trans ?_)⟩
    · exact congrArg not noRight
    · have notOne : r.oneWord = false := by
        rw [Request.oneWord]
        rcases wide with count | enables
        · simp [count]
        · simp [enables]
      rw [if_neg (by rw [(right : (s.requesters[r.requester]).right = true)]; decide), notOne]
      rfl
  · have verdict := State.verdict_of_traffic sound opened below
    refine ⟨fun isDown => refused (verdict.trans (State.judgeTraffic_of_down isDown)), fun up => ?_⟩
    intro check
    have judged : s.verdict r = check.verdict s r kind := verdict.trans (State.judgeTraffic_of_up up)
    exact ⟨fun result => refused (by rw [judged, result]; rfl), fun i result => refused (by rw [judged, result]; rfl),
      fun i result => refused (by rw [judged, result]; rfl), fun i result => refused (by rw [judged, result]; rfl)⟩

/-! ### RETRY and the forward (R43, R44) -/

theorem RegionEntry.kind_of_downstream_pw {e : RegionEntry} {kind : RequestKind} (posted : e.downstreamKind kind = .pw) :
    kind = .pw := by
  refine Classical.byContradiction fun other => ?_
  exact other ((e.downstreamKind_of_ne_pw other).symm.trans posted)

theorem State.lacks_forward (s : State) (r : Request) (kind : RequestKind) (p : Passage) :
    s.lacks r (.forward kind p) =
      { reply := false, issue := decide (32 ≤ s.issueQueue.length), tag := decide (p.kind ≠ .pw ∧ s.freeTags = []),
        again := false } := by
  have full : (!decide (s.issueQueue.length < 32)) = decide (32 ≤ s.issueQueue.length) := by
    rw [← decide_not]
    exact decide_eq_decide.mpr Nat.not_lt
  have noTag : (p.kind != .pw && s.freeTags.isEmpty) = decide (p.kind ≠ .pw ∧ s.freeTags = []) := by
    rw [Bool.decide_and]
    cases s.freeTags <;> simp [bne, Bool.beq_eq_decide_eq]
  simp only [State.lacks, Verdict.needsReply, Verdict.needsIssue, Verdict.needsTag, Bool.false_and, Bool.true_and,
    Config.issueSlots, full, noTag]

theorem State.forward_of_posted {s : State} {r : Request} {kind : RequestKind} {p : Passage}
    (posted : p.kind = .pw) :
    s.forward r kind p = (State.rise p.index { s with
      issueQueue := s.issueQueue ++ [forwardEntry r p none] }).updateRequester r.requester (fun x => x.forwarded kind) := by
  rcases State.forward_cases r kind p s with ⟨-, forwarded⟩ | ⟨g, free, tagged, -⟩
  · exact forwarded
  · exact absurd posted tagged

theorem State.forward_of_tagged {s : State} {r : Request} {kind : RequestKind} {p : Passage} {g : Fin 48}
    {free : List (Fin 48)} (tagged : p.kind ≠ .pw) (first : s.freeTags = g :: free) :
    s.forward r kind p = { (State.rise p.index { s with
      issueQueue := s.issueQueue ++ [forwardEntry r p (some g)] }).updateRequester r.requester
        (fun x => x.forwarded kind) with
      tags := s.tags.set g (forwardTag r kind p), freeTags := free } := by
  rcases State.forward_cases r kind p s with ⟨untagged, -⟩ | ⟨g', free', -, first', forwarded⟩
  · rw [first] at untagged
    exact absurd untagged (not_or.mpr ⟨tagged, List.cons_ne_nil _ _⟩)
  · obtain ⟨rfl, rfl⟩ := List.cons.inj (first.symm.trans first')
    exact forwarded

/-- Settles O37: a RETRY, or the forward with its queue entry, its tag and its counts. -/
theorem passingRequestsAreForwardedOrRetried : Obligations.PassingRequestsAreForwardedOrRetried := by
  intro s packet rest admits r q t kind address p sound opened below up passes entry
  have verdict : s.verdict r =
      if kind ≠ .pw ∧ (s.requesters[r.requester]).limit ≤ (s.requesters[r.requester]).outstanding then .retry
      else .forward kind p := by
    rw [State.verdict_of_traffic sound opened below, State.judgeTraffic_of_up up, passes]
    rfl
  refine ⟨fun notPosted atLimit slot => ?_, fun mayGo room => ?_⟩
  · have complete : (s.lacks r .retry).any = false := by
      simp [State.lacks, Verdict.needsReply, Verdict.needsIssue, Verdict.needsTag, AdmissionWait.any,
        State.replySlot_of_up admits.1, slot]
    rw [exec_admission_of_verdict admits (verdict.trans (if_pos ⟨notPosted, atLimit⟩)) complete]
    exact congrArg _ (State.placeReply_up _ _ admits.1)
  · have forwards : s.verdict r = .forward kind p := verdict.trans (if_neg fun ⟨notPosted, atLimit⟩ =>
      mayGo.elim notPosted (Nat.not_lt.mpr atLimit))
    have carried (complete : p.kind = .pw ∨ s.freeTags ≠ []) :
        exec .admissionEvaluate s = .next (t.forward r kind p) := by
      refine exec_admission_of_verdict admits forwards ?_
      rw [State.lacks_forward]
      simp only [AdmissionWait.any, Bool.false_or, Bool.or_eq_false_iff, decide_eq_false_iff_not, Nat.not_le,
        Classical.not_and_iff_not_or_not, Classical.not_not]
      exact ⟨room, complete⟩
    obtain ⟨-, -, downstream, -⟩ := State.regionCheck_pass passes
    refine ⟨fun posted => ?_, fun tagged g free first => ?_⟩
    · have isPosted : kind = .pw := RegionEntry.kind_of_downstream_pw (downstream.symm.trans posted)
      rw [carried (.inl posted), State.forward_of_posted posted, isPosted]
      rfl
    · rw [carried (.inr (by rw [first]; exact List.cons_ne_nil _ _)), State.forward_of_tagged (s := t) tagged first]
      simp only [forwardTag, RequesterRecord.forwarded, beq_iff_eq]
      rfl

/-! ### Waiting for a resource (R45, R46) -/

theorem State.admission_of_blocked {s : State} {w : AdmissionWait} (wait : s.admissionWait = some w)
    (again : w.again = false) : s.admission = s := by
  have blocked : s.admissionBlocked = true := by simp only [State.admissionBlocked, wait, again, Bool.not_false]
  cases head : s.uPort.inbound with
  | nil => simp only [State.admission, head]
  | cons packet rest => simp only [State.admission, head, blocked, if_true]

theorem State.admission_of_unexpected {s : State} {packet : List Word} {rest : List (List Word)}
    (head : s.uPort.inbound = packet :: rest) (other : packetType packet ≠ 0)
    (again : ∀ w ∈ s.admissionWait, w.again = true) :
    s.admission = (s.headOffU rest).takeFault { kind := .unexpectedPacket, port := some .u } := by
  have dequeued := State.dequeueU_of_head head
  simp only [State.admission, head, State.admissionBlocked_eq_false again, Bool.false_eq_true, if_false, other, dequeued]

theorem State.lacks_of_reply {s : State} {r : Request} {v : Verdict} (up : s.uPort.state = .up)
    (full : 32 ≤ s.replyQueue.length) (reply : v.needsReply r = true) (noIssue : v.needsIssue = false)
    (noTag : v.needsTag = false) :
    s.lacks r v = { reply := true, issue := false, tag := false, again := false } := by
  have noSlot : s.replySlot = false := by
    rw [State.replySlot_of_up up]
    exact decide_eq_false (Nat.not_lt.mpr full)
  simp only [State.lacks, reply, noIssue, noTag, noSlot, Bool.not_false, Bool.true_and, Bool.false_and]

/-- Settles O38: what is noted of an outcome that lacks a resource. -/
theorem admissionWaitsForResources : Obligations.AdmissionWaitsForResources := by
  intro s packet rest
  refine ⟨fun head other again => congrArg _ (State.admission_of_unexpected head other again),
    fun w wait again => congrArg _ (State.admission_of_blocked wait again), fun admits => ?_⟩
  intro r
  have lacks {v : Verdict} {w : AdmissionWait} (verdict : s.verdict r = v) (lacking : s.lacks r v = w) (any : w.any = true) :
      exec .admissionEvaluate s = .next { s with admissionWait := some w } := by
    subst lacking
    exact exec_admission_of_lacking admits verdict any
  refine ⟨fun outcome full => ?_, fun kind p verdict => ?_⟩
  · rcases outcome with ⟨status, fault, verdict, notPosted⟩ | verdict | ⟨kind, offset, verdict, notPosted⟩
    · have reply : r.posted = false := Bool.eq_false_iff.mpr ((not_congr r.posted_iff).mpr notPosted)
      exact lacks verdict (State.lacks_of_reply admits.1 full (congrArg not reply) rfl rfl) rfl
    · exact lacks verdict (State.lacks_of_reply admits.1 full rfl rfl rfl) rfl
    · exact lacks verdict (State.lacks_of_reply admits.1 full (bne_iff_ne.mpr notPosted) rfl rfl) rfl
  · intro full noTag lacking
    refine lacks verdict (s.lacks_forward r kind p) ?_
    simp only [AdmissionWait.any, Bool.false_or, Bool.or_eq_true, decide_eq_true_eq]
    exact lacking

end Sys2Proof.Machine

/-! A management access goes to the management unit in the event that admits it (R40, R127). Settles O39. -/
namespace Sys2Proof.Machine

/-! ### The row of a management write -/

theorem commandCode_of_commandOf {code : Byte} {c : Command} (named : commandOf code = some c) : commandCode c = code := by
  simpa using List.find?_some named

section
variable {t : State} {a : Access}

theorem exec_readOnlyWrite_of_ignored (hands : t.handsOver a = true) {offset : BitVec 16} (aligned : offset.toNat % 4 = 0)
    (ignored : apertureWritable (apertureWord offset.toNat) = false) (value : Word) :
    exec (.readOnlyWrite a (offset.extractLsb' 2 14) value) t = .next (t.writeIgnored a) := by
  have word : 4 * (offset.extractLsb' 2 14).toNat = offset.toNat := by
    rw [BitVec.extractLsb'_toNat, Nat.shiftRight_eq_div_pow]
    omega
  simp only [exec, execReadOnlyWrite, word, ignored, Bool.false_eq_true, if_false,
    State.handed_of_handsOver a _ t hands]

theorem exec_managementRow_of_command (hands : t.handsOver a = true) {offset : BitVec 16}
    (word : apertureWord offset.toNat = .command) (value : Word) :
    exec (managementRow a offset value) t = .next (t.writeCommand a value) := by
  have handed (act : State → State) : t.handed a act = act t := State.handed_of_handsOver a act t hands
  unfold managementRow State.writeCommand
  dsimp only
  rw [word]
  dsimp only
  cases named : commandOf (value.extractLsb' 0 8) with
  | none => simp only [exec, execUnknownCommand, named, Option.isNone_none, if_true, handed]; rfl
  | some c =>
    rw [← commandCode_of_commandOf named]
    cases c <;> exact congrArg Host.Outcome.next (handed _)

/-- The row of a write, handed over, does what the management unit does with the word it addresses. -/
theorem exec_managementRow (hands : t.handsOver a = true) {offset : BitVec 16} (aligned : offset.toNat % 4 = 0)
    (value : Word) :
    exec (managementRow a offset value) t = .next (t.manageWrite a (apertureWord offset.toNat) value) := by
  have handed (act : State → State) : t.handed a act = act t := State.handed_of_handsOver a act t hands
  have ignored (notWritable : apertureWritable (apertureWord offset.toNat) = false) :=
    exec_readOnlyWrite_of_ignored hands aligned notWritable value
  cases word : apertureWord offset.toNat with
  | command => exact exec_managementRow_of_command hands word value
  | staging r w => simp only [managementRow, word]; exact congrArg Host.Outcome.next (handed _)
  | replyTimeout => simp only [managementRow, word]; exact congrArg Host.Outcome.next (handed _)
  | noticeConfiguration => simp only [managementRow, word]; exact congrArg Host.Outcome.next (handed _)
  | channelConfiguration c w => simp only [managementRow, word]; exact congrArg Host.Outcome.next (handed _)
  | requester q w =>
    by_cases first : w = 0
    · subst first
      simp only [managementRow, word, if_true]
      exact congrArg Host.Outcome.next (handed _)
    · have other : w.val ≠ 0 := fun zero => first (Fin.ext zero)
      have notWritable : apertureWritable (apertureWord offset.toNat) = false := by
        rw [word]
        exact beq_eq_false_iff_ne.mpr other
      simp only [managementRow, word, first, if_false, ignored notWritable, State.manageWrite, other]
  | _ =>
    have notWritable : apertureWritable (apertureWord offset.toNat) = false := by rw [word]; rfl
    simp only [managementRow, word, ignored notWritable, State.manageWrite]

end

/-! ### The access that admission hands over -/

theorem readRequest_address_aligned {packet : List Word} {address : Address}
    (carried : (readRequest packet).address = some address) : address.toNat % 4 = 0 := by
  obtain _ | ⟨header, _ | ⟨low, data⟩⟩ := packet
  · simp [readRequest] at carried
  · simp [readRequest] at carried
  · obtain rfl : _ = address := by simpa only [readRequest, Option.some.injEq] using carried
    rw [BitVec.toNat_append, BitVec.toNat_ofNat, Nat.zero_mod, Nat.or_zero, Nat.shiftLeft_eq]
    omega

theorem apertureOffset_toNat {address : Address} (inside : 0xFFFFF0000 ≤ address.toNat) :
    (address.extractLsb' 0 16).toNat = address.toNat - 0xFFFFF0000 := by
  have bound := address.isLt
  rw [BitVec.extractLsb'_toNat, Nat.shiftRight_zero]
  omega

theorem Request.oneWord_of_sound {r : Request} {kind : RequestKind} {address : Address}
    (sound : wellFormedRequest r = some (kind, address)) (one : r.wordCount = 1) (enables : r.firstEnables = 0xF#4) :
    r.oneWord = true := by
  obtain ⟨-, -, -, -, -, enablesSuit, -⟩ := (wellFormedRequest_eq_some_iff _ _ _).mp sound
  obtain ⟨-, last, -⟩ := (enablesOk_iff _ _ _).mp enablesSuit
  simp only [Request.oneWord, one, enables, last one, beq_self_eq_true, Bool.and_self]

theorem State.manage_of_write {kind : RequestKind} (write : kind ≠ .rd) (q : Fin 16) (tag : BitVec 8) (offset : Nat)
    (data : List Word) (s : State) :
    s.manage kind q tag offset data =
      s.manageWrite { requester := q, tag := tag, confirmed := kind == .cw } (apertureWord offset) (data.headD 0#32) := by
  cases kind with
  | rd => exact absurd rfl write
  | pw => rfl
  | cw => rfl

/-- Settles O39: a read is answered with the word, a write is the row of its word. -/
theorem managementAccessIsHandedOver : Obligations.ManagementAccessIsHandedOver := by
  intro s packet rest admits loaded r t kind address sound opened right inside one enables slot offset
  have verdict : s.verdict r = .management kind (address.toNat - 0xFFFFF0000) := by
    rw [State.verdict_of_aperture sound opened inside, right, Request.oneWord_of_sound sound one enables]
    rfl
  have complete : (s.lacks r (.management kind (address.toNat - 0xFFFFF0000))).any = false := by
    simp only [State.lacks, Verdict.needsReply, Verdict.needsIssue, Verdict.needsTag, AdmissionWait.any,
      State.replySlot_of_up admits.1, Bool.false_and, Bool.or_false, Bool.and_eq_false_iff, bne_eq_false_iff_eq,
      Bool.not_eq_false', decide_eq_true_eq]
    exact Classical.or_iff_not_imp_left.mpr slot
  have managed := exec_admission_of_verdict admits verdict complete
  have place : offset.toNat = address.toNat - 0xFFFFF0000 := apertureOffset_toNat inside
  rw [← place] at managed
  refine ⟨fun read => ?_, fun write => ?_⟩
  · subst read
    exact managed.trans (congrArg _ (State.placeReply_up _ _ admits.1))
  · obtain ⟨-, carried, -⟩ := (wellFormedRequest_eq_some_iff _ _ _).mp sound
    have aligned : offset.toNat % 4 = 0 := by
      have := readRequest_address_aligned carried
      omega
    have hands : t.handsOver { requester := r.requester, tag := r.tag, confirmed := kind == .cw } = true :=
      State.mayManage.handsOver ⟨admits.1, loaded, opened, right, fun confirmed => slot (by
        rw [beq_iff_eq.mp confirmed]
        decide)⟩
    rw [exec_managementRow hands aligned, ← State.manage_of_write write]
    exact managed

end Sys2Proof.Machine

/-! Completions, expiries and the closing run (R56 to R69), and the answer handed to a channel (R61). Settles O40, O41
and O42. -/
namespace Sys2Proof.Machine

/-! ### Replies -/

theorem State.placeReply_eq_sentUp (r : Reply) (s : State) : s.placeReply r = s.sentUp r := by
  simp only [State.placeReply, State.sentUp, beq_iff_eq]

theorem State.replySlot_iff (s : State) : s.replySlot = true ↔ s.replyFits := by
  simp only [State.replySlot, State.replyFits, Bool.or_eq_true, bne_iff_ne, decide_eq_true_eq, Config.replySlots]
  exact Decidable.imp_iff_not_or.symm

theorem State.sentUp_tags (r : Reply) (s : State) : (s.sentUp r).tags = s.tags := by
  unfold State.sentUp
  split <;> rfl

/-! ### A tag that becomes FREE or EXPIRED, by its state and its owner -/

theorem State.putFree_eq_tagReturned (t : Fin 48) (s : State) : s.putFree t = s.tagReturned t := rfl

theorem State.lowerOutstanding_eq_owesOneLess (q : Fin 16) (s : State) : s.lowerOutstanding q = s.owesOneLess q := rfl

section
variable {r : TagRecord} (s : State)

theorem State.endCounts_of_own (waiting : r.state = .waiting) (own : r.owner ≠ .requester) :
    s.endCounts r = s.fall r.index r.generation := by
  have notOwed : r.owes = false := by simp [TagRecord.owes, own]
  have counted : r.inFlight = true := by simp [TagRecord.inFlight, waiting]
  simp only [State.endCounts, notOwed, counted, Bool.false_eq_true, if_false, if_true]

theorem State.endCounts_of_requester (waiting : r.state = .waiting) (owner : r.owner = .requester) :
    s.endCounts r = (s.owesOneLess r.ownerRequester).fall r.index r.generation := by
  have owed : r.owes = true := by simp [TagRecord.owes, waiting, owner]
  have counted : r.inFlight = true := by simp [TagRecord.inFlight, waiting]
  simp only [State.endCounts, owed, counted, if_true]
  rfl

theorem State.endCounts_of_closing (closing : r.state = .closing) (owner : r.owner = .requester) :
    s.endCounts r = s.owesOneLess r.ownerRequester := by
  have owed : r.owes = true := by simp [TagRecord.owes, closing, owner]
  have notCounted : r.inFlight = false := by simp [TagRecord.inFlight, closing]
  simp only [State.endCounts, owed, notCounted, if_true, Bool.false_eq_true, if_false]
  rfl

theorem State.endCounts_of_expired (expired : r.state = .expired) : s.endCounts r = s := by
  have notOwed : r.owes = false := by simp [TagRecord.owes, expired]
  have notCounted : r.inFlight = false := by simp [TagRecord.inFlight, expired]
  simp only [State.endCounts, notOwed, notCounted, Bool.false_eq_true, if_false]

end

section
variable {s : State} {t : Fin 48}

theorem State.freeTag_eq (used : (s.tags[t]).state ≠ .free) : s.freeTag t = (s.tagReturned t).endCounts (s.tags[t]) := by
  unfold State.freeTag
  rw [if_neg (by simpa using used), State.putFree_eq_tagReturned]

theorem State.freeTag_of_expired (expired : (s.tags[t]).state = .expired) : s.freeTag t = s.tagReturned t := by
  rw [State.freeTag_eq (by rw [expired]; decide), State.endCounts_of_expired _ expired]

theorem State.freeTag_of_own (waiting : (s.tags[t]).state = .waiting) (own : (s.tags[t]).owner ≠ .requester) :
    s.freeTag t = (s.tagReturned t).fall (s.tags[t]).index (s.tags[t]).generation := by
  rw [State.freeTag_eq (by rw [waiting]; decide), State.endCounts_of_own _ waiting own]

theorem State.freeTag_of_requester (waiting : (s.tags[t]).state = .waiting) (owner : (s.tags[t]).owner = .requester) :
    s.freeTag t = (State.owesOneLess (s.tags[t]).ownerRequester (s.tagReturned t)).fall (s.tags[t]).index
      (s.tags[t]).generation := by
  rw [State.freeTag_eq (by rw [waiting]; decide), State.endCounts_of_requester _ waiting owner]

theorem State.freeTag_of_closing (closing : (s.tags[t]).state = .closing) (owner : (s.tags[t]).owner = .requester) :
    s.freeTag t = State.owesOneLess (s.tags[t]).ownerRequester (s.tagReturned t) := by
  rw [State.freeTag_eq (by rw [closing]; decide), State.endCounts_of_closing _ closing owner]

theorem State.expireTag_eq (waiting : (s.tags[t]).state = .waiting) :
    s.expireTag t = (s.tagExpired t).endCounts (s.tags[t]) := by
  unfold State.expireTag
  rw [if_pos (by simpa using waiting)]
  rfl

end

/-! ### The completion unit -/

section
variable {s : State} {packet : List Word} {rest : List (List Word)}

theorem State.dequeueD_of_head (head : s.dPort.inbound = packet :: rest) : s.dequeueD = s.headOffD rest := by
  simp only [State.dequeueD, State.headOffD, head, List.drop_one, List.tail_cons]

theorem State.takeCompletion_of_completion (head : s.dPort.inbound = packet :: rest) (weighed : s.completionWait ≠ some false)
    (isCompletion : packetType packet = 1) : s.takeCompletion = s.classify (readCompletion packet) := by
  simp only [State.takeCompletion, head, beq_iff_eq, weighed, if_false, isCompletion, if_true]

theorem State.takeCompletion_of_other (head : s.dPort.inbound = packet :: rest) (weighed : s.completionWait ≠ some false)
    (other : packetType packet ≠ 1) :
    s.takeCompletion = (s.headOffD rest).takeFault { kind := .unexpectedPacket, port := some .d } := by
  have dequeued := State.dequeueD_of_head head
  simp only [State.takeCompletion, head, beq_iff_eq, weighed, if_false, other, dequeued]

end

section
variable {s : State} {c : Completion} {g : Fin 48}

theorem State.classify_of_beyond (beyond : 48 ≤ c.tag) : s.classify c = s.orphan none :=
  dif_neg (Nat.not_lt.mpr beyond)

theorem State.classify_of_waiting (named : c.tag = g.val) (waiting : (s.tags[g]).state = .waiting) :
    s.classify c = s.matchCompletion g c := by
  simp only [State.classify, named, g.isLt, dif_pos, Fin.eta, waiting]

theorem State.classify_of_expired (named : c.tag = g.val) (expired : (s.tags[g]).state = .expired) :
    s.classify c = s.lateCompletion g := by
  simp only [State.classify, named, g.isLt, dif_pos, Fin.eta, expired]

theorem State.classify_of_other (named : c.tag = g.val) (notWaiting : (s.tags[g]).state ≠ .waiting)
    (notExpired : (s.tags[g]).state ≠ .expired) : s.classify c = s.orphan (some g) := by
  cases state : (s.tags[g]).state with
  | waiting => exact absurd state notWaiting
  | expired => exact absurd state notExpired
  | free => simp only [State.classify, named, g.isLt, dif_pos, Fin.eta, state]
  | queued => simp only [State.classify, named, g.isLt, dif_pos, Fin.eta, state]
  | closing => simp only [State.classify, named, g.isLt, dif_pos, Fin.eta, state]

end

theorem goodCompletion_iff (r : TagRecord) (c : Completion) :
    goodCompletion r c = true ↔ c.statusCode = 0 ∧ c.data.length = (if r.kind = .rd then r.wordCount else 0) := by
  rw [goodCompletion, Bool.and_eq_true, beq_iff_eq]
  refine and_congr_right fun ok => ?_
  cases kind : r.kind <;> simp [rightLength, kind, ok]

theorem State.faultRequester_eq (r : TagRecord) (s : State) :
    s.faultRequester r = if r.owner = .channel then (s.channels[r.ownerChannel]).owner else r.ownerRequester := by
  cases owner : r.owner <;> simp [-Fin.getElem_fin, State.faultRequester, owner]

/-- The TARGET_ERROR fault is recorded exactly when the completion was not good (R59, R60). -/
theorem State.judge_eq (g : Fin 48) (r : TagRecord) (c : Completion) (s : State) :
    (goodCompletion r c = true → s.judge g r (goodCompletion r c) = s) ∧
      (¬goodCompletion r c = true →
        s.judge g r (goodCompletion r c) = s.takeFault (tagFault .targetError r.ownerRequester g r)) :=
  ⟨fun good => if_pos good, fun bad => if_neg bad⟩

theorem matchReply_of_good {r : TagRecord} {c : Completion} (good : goodCompletion r c = true) :
    matchReply r c = .completion r.ownerRequester r.upstreamTag .ok c.data := if_pos good

theorem matchReply_of_bad {r : TagRecord} {c : Completion} (bad : ¬goodCompletion r c = true) :
    matchReply r c = .completion r.ownerRequester r.upstreamTag .targetError [] := if_neg bad

theorem State.matchGate_eq {t : State} {g : Fin 48} (c : Completion) {s : State} (dequeued : s.dequeueD = t)
    (waiting : (t.tags[g]).state = .waiting) (owner : (t.tags[g]).owner = .gate) (same : s.tags = t.tags) :
    s.matchGate g c =
      State.judge g (t.tags[g]) (goodCompletion (t.tags[g]) c)
        ((t.tagReturned g).fall (t.tags[g]).index (t.tags[g]).generation) := by
  unfold State.matchGate
  dsimp only
  rw [dequeued, same, State.freeTag_of_own waiting (by rw [owner]; decide)]

theorem State.matchRequester_eq {t : State} {g : Fin 48} (c : Completion) {s : State} (dequeued : s.dequeueD = t)
    (waiting : (t.tags[g]).state = .waiting) (owner : (t.tags[g]).owner = .requester) (same : s.tags = t.tags)
    (slot : s.replySlot = true) :
    s.matchRequester g c =
      State.judge g (t.tags[g]) (goodCompletion (t.tags[g]) c)
        ((State.owesOneLess (t.tags[g]).ownerRequester ((t.sentUp (matchReply (t.tags[g]) c)).tagReturned g)).fall
          (t.tags[g]).index (t.tags[g]).generation) := by
  have kept : (t.sentUp (matchReply (t.tags[g]) c)).tags[g] = t.tags[g] := by rw [State.sentUp_tags]
  unfold State.matchRequester
  dsimp only
  rw [if_pos slot, dequeued, same, State.placeReply_eq_sentUp,
    State.freeTag_of_requester (by rw [kept]; exact waiting) (by rw [kept]; exact owner), kept]

/-- Settles O40: a completion is matched by the state and the owner of its tag. -/
theorem completionIsMatchedByItsTag : Obligations.CompletionIsMatchedByItsTag := by
  intro s packet rest head weighed c t run
  have dequeued : s.dequeueD = t := State.dequeueD_of_head head
  refine ⟨fun other => congrArg _ (State.takeCompletion_of_other head weighed other), fun isCompletion beyond => ?_,
    fun g isCompletion named => ?_⟩
  · have orphaned : s.takeCompletion = s.orphan none :=
      (State.takeCompletion_of_completion head weighed isCompletion).trans (State.classify_of_beyond beyond)
    rw [State.orphan, dequeued] at orphaned
    exact congrArg _ orphaned
  intro r good failed
  have taken : s.takeCompletion = s.classify c := State.takeCompletion_of_completion head weighed isCompletion
  have isGood : goodCompletion r c = true ↔ good := goodCompletion_iff r c
  refine ⟨fun notWaiting notExpired => ?_, fun expired => ?_, fun waiting owner => ?_, fun waiting owner fits => ?_,
    fun waiting owner full => ?_⟩
  · have orphaned := taken.trans (State.classify_of_other named notWaiting notExpired)
    rw [State.orphan, dequeued] at orphaned
    exact congrArg _ orphaned
  · have late := taken.trans (State.classify_of_expired named expired)
    rw [State.lateCompletion, dequeued, State.freeTag_of_expired (s := t) expired, State.lateFault,
      State.faultRequester_eq] at late
    exact congrArg _ late
  · intro ended
    have matched : s.takeCompletion = s.matchGate g c := by
      rw [taken, State.classify_of_waiting named waiting, State.matchCompletion, (owner : (s.tags[g]).owner = .gate)]
    rw [State.matchGate_eq c dequeued waiting owner rfl] at matched
    obtain ⟨whenGood, whenBad⟩ := State.judge_eq g r c ended
    exact ⟨fun ok => congrArg _ (matched.trans (whenGood (isGood.mpr ok))),
      fun bad => congrArg _ (matched.trans (whenBad ((not_congr isGood).mpr bad)))⟩
  · intro ended
    have matched : s.takeCompletion = s.matchRequester g c := by
      rw [taken, State.classify_of_waiting named waiting, State.matchCompletion, (owner : (s.tags[g]).owner = .requester)]
    rw [State.matchRequester_eq c dequeued waiting owner rfl (s.replySlot_iff.mpr fits)] at matched
    obtain ⟨whenGood, whenBad⟩ := State.judge_eq g r c (ended (matchReply r c))
    refine ⟨fun ok => congrArg _ ?_, fun bad => congrArg _ ?_⟩
    · rw [← matchReply_of_good (isGood.mpr ok)]
      exact matched.trans (whenGood (isGood.mpr ok))
    · rw [← matchReply_of_bad ((not_congr isGood).mpr bad)]
      exact matched.trans (whenBad ((not_congr isGood).mpr bad))
  · have matched : s.takeCompletion = s.matchRequester g c := by
      rw [taken, State.classify_of_waiting named waiting, State.matchCompletion, (owner : (s.tags[g]).owner = .requester)]
    exact congrArg _ (matched.trans (if_neg ((not_congr s.replySlot_iff).mpr full)))

/-! ### Expiry, reclaim and the closing run -/

section
variable {s : State} {g : Fin 48}

theorem State.tagReached_iff : s.tagReached g = true ↔ s.deadlinePassed g := by
  unfold State.tagReached State.deadlinePassed
  cases (s.tags[g]).deadline with
  | none => simp
  | some d => simp [-Fin.getElem_fin, deadlineReached]

theorem State.replyDue_iff : s.replyDue g = true ↔ (s.tags[g]).state = .waiting ∧ s.deadlinePassed g := by
  rw [State.replyDue, Bool.and_eq_true, beq_iff_eq, State.tagReached_iff]

theorem State.expireOwn_of_gate (due : s.replyDue g = true) (owner : (s.tags[g]).owner = .gate) :
    s.expireOwn g = (s.expireTag g).takeFault (s.timeoutFault g) := by
  simp only [State.expireOwn, due, if_true, owner]

theorem State.expireOwn_of_channel (due : s.replyDue g = true) (owner : (s.tags[g]).owner = .channel) :
    s.expireOwn g = ((s.expireTag g).takeFault (s.timeoutFault g)).channelExpiry (s.tags[g]).ownerChannel g
      (s.tags[g]).index := by
  simp only [State.expireOwn, due, if_true, owner]

theorem State.expireOwn_of_other (other : s.replyDue g = false ∨ (s.tags[g]).owner = .requester) : s.expireOwn g = s := by
  rcases other with early | owner
  · simp only [State.expireOwn, early, Bool.false_eq_true, if_false]
  · simp only [State.expireOwn, owner, ite_self]

theorem State.expireTag_of_own (waiting : (s.tags[g]).state = .waiting) (own : (s.tags[g]).owner ≠ .requester) :
    s.expireTag g = (s.tagExpired g).fall (s.tags[g]).index (s.tags[g]).generation := by
  rw [State.expireTag_eq waiting, State.endCounts_of_own _ waiting own]

theorem State.expireTag_of_requester (waiting : (s.tags[g]).state = .waiting) (owner : (s.tags[g]).owner = .requester) :
    s.expireTag g = (State.owesOneLess (s.tags[g]).ownerRequester (s.tagExpired g)).fall (s.tags[g]).index
      (s.tags[g]).generation := by
  rw [State.expireTag_eq waiting, State.endCounts_of_requester _ waiting owner]

theorem State.timeoutFault_eq : s.timeoutFault g = tagFault .timeout
    (if (s.tags[g]).owner = .channel then (s.channels[(s.tags[g]).ownerChannel]).owner else (s.tags[g]).ownerRequester)
    g (s.tags[g]) := by
  rw [State.timeoutFault, State.faultRequester_eq]
  rfl

theorem State.expireRequester_of_due (due : s.replyDue g = true) (owner : (s.tags[g]).owner = .requester)
    (fits : s.replyFits) :
    s.expireRequester g =
      ((s.sentUp (.completion (s.tags[g]).ownerRequester (s.tags[g]).upstreamTag .timeout [])).expireTag g).takeFault
        (s.timeoutFault g) := by
  simp only [State.expireRequester, due, owner, s.replySlot_iff.mpr fits, beq_self_eq_true, Bool.and_self, if_true,
    State.placeReply_eq_sentUp]

theorem State.expireRequester_of_other
    (other : s.replyDue g = false ∨ (s.tags[g]).owner ≠ .requester ∨ ¬s.replyFits) : s.expireRequester g = s := by
  refine if_neg ?_
  rw [Bool.and_eq_true, Bool.and_eq_true, beq_iff_eq, s.replySlot_iff]
  rintro ⟨⟨due, owner⟩, fits⟩
  rcases other with early | notOwner | full
  · exact absurd (due.symm.trans early) (by decide)
  · exact notOwner owner
  · exact full fits

theorem State.reclaim_of_due (expired : (s.tags[g]).state = .expired) (passed : s.deadlinePassed g) :
    s.reclaim g = s.tagReturned g := by
  unfold State.reclaim
  rw [if_pos (by rw [expired, State.tagReached_iff.mpr passed]; rfl), State.freeTag_of_expired expired]

theorem State.reclaim_of_other (other : ¬s.deadlinePassed g ∨ (s.tags[g]).state ≠ .expired) : s.reclaim g = s := by
  refine if_neg ?_
  rw [Bool.and_eq_true, beq_iff_eq, State.tagReached_iff]
  rintro ⟨expired, passed⟩
  exact other.elim (fun early => early passed) (fun notExpired => notExpired expired)

theorem State.lowestClosing_eq (closing : (s.tags[g]).state = .closing)
    (lowest : ∀ i : Fin 48, i < g → (s.tags[i]).state ≠ .closing) : s.lowestClosing = some g := by
  cases found : s.lowestClosing with
  | none =>
    have noneCloses := (find?_finRange_eq_none_iff _).mp found g
    rw [closing] at noneCloses
    exact absurd noneCloses (by decide)
  | some i =>
    obtain ⟨closingI, below⟩ := lowest_of_find?_finRange found
    rcases Nat.lt_trichotomy i.val g.val with less | same | more
    · exact absurd (beq_iff_eq.mp closingI) (lowest i less)
    · rw [Fin.ext same]
    · exact absurd (below g more) (by rw [closing]; decide)

theorem State.answerClosing_of_none (none : ∀ i : Fin 48, (s.tags[i]).state ≠ .closing) : s.answerClosing = s := by
  have absent : s.lowestClosing = Option.none :=
    (find?_finRange_eq_none_iff _).mpr fun i => beq_eq_false_iff_ne.mpr (none i)
  simp only [State.answerClosing, absent]

theorem State.answerClosing_of_lowest (lowest : s.lowestClosing = some g) :
    s.answerClosing =
      if s.replySlot = true then
        (s.sentUp (.completion (s.tags[g]).ownerRequester (s.tags[g]).upstreamTag .linkDown [])).freeTag g
      else s := by
  simp only [State.answerClosing, lowest, State.placeReply_eq_sentUp]

end

theorem State.fall_channels (i : Fin 64) (generation : BitVec 8) (s : State) :
    (s.fall i generation).channels = s.channels := by rw [State.fall_frame]

theorem State.takeFault_channels (f : FaultReport) (s : State) : (s.takeFault f).channels = s.channels := by
  rw [State.takeFault_frame]

theorem State.channelExpiry_eq {s : State} {c : Fin 2} {ch : Channel} (here : s.channels[c] = ch) {t : Fin 48}
    {index : Fin 64} :
    s.channelExpiry c t index = (s.setChannel c (ch.withoutTag t)).enterDrain c .timeout (some index) none := by
  subst here
  rfl

/-- Settles O42: expiry by owner, reclaim, and the lowest CLOSING tag. -/
theorem tagsExpireAndAreReclaimedOrAnswered : Obligations.TagsExpireAndAreReclaimedOrAnswered := by
  intro s g r ended answer
  have kept (reply : Reply) : (s.sentUp reply).tags[g] = r := by rw [State.sentUp_tags]
  have early (not : ¬s.deadlinePassed g ∨ r.state ≠ .waiting) : s.replyDue g = false :=
    Bool.eq_false_iff.mpr ((not_congr State.replyDue_iff).mpr fun ⟨waiting, passed⟩ =>
      not.elim (fun soon => soon passed) (fun other => other waiting))
  refine ⟨fun passed => ⟨fun waiting owner => ?_, fun waiting owner => ?_, fun waiting owner => ⟨fun fits => ?_, fun full => ?_⟩,
    fun expired => congrArg _ (State.reclaim_of_due expired passed)⟩, fun closing owner lowest => ⟨fun fits => ?_, fun full => ?_⟩,
    fun not => ?_, fun not => ?_, fun other => congrArg _ (State.reclaim_of_other other),
    fun noneCloses => congrArg _ (State.answerClosing_of_none noneCloses)⟩
  · have due : s.replyDue g = true := State.replyDue_iff.mpr ⟨waiting, passed⟩
    have own : r.owner ≠ .requester := by rw [owner]; decide
    refine congrArg _ ((State.expireOwn_of_gate due owner).trans ?_)
    rw [State.expireTag_of_own waiting own, State.timeoutFault_eq,
      if_neg (by rw [(owner : (s.tags[g]).owner = .gate)]; decide)]
  · intro c told
    have due : s.replyDue g = true := State.replyDue_iff.mpr ⟨waiting, passed⟩
    have own : r.owner ≠ .requester := by rw [owner]; decide
    have channels : told.channels = s.channels := by rw [State.takeFault_channels, State.fall_channels]; rfl
    refine congrArg _ ((State.expireOwn_of_channel due owner).trans ?_)
    rw [State.expireTag_of_own waiting own, State.timeoutFault_eq, if_pos owner]
    exact State.channelExpiry_eq (s := told) (by rw [channels])
  · have due : s.replyDue g = true := State.replyDue_iff.mpr ⟨waiting, passed⟩
    have placed := kept (answer .timeout)
    refine congrArg _ ((State.expireRequester_of_due due owner fits).trans ?_)
    rw [State.expireTag_of_requester (by rw [placed]; exact waiting) (by rw [placed]; exact owner), placed,
      State.timeoutFault_eq, if_neg (by rw [(owner : (s.tags[g]).owner = .requester)]; decide)]
  · exact congrArg _ (State.expireRequester_of_other (.inr (.inr full)))
  · have placed := kept (answer .linkDown)
    refine congrArg _ ((State.answerClosing_of_lowest (State.lowestClosing_eq closing lowest)).trans ?_)
    rw [if_pos (s.replySlot_iff.mpr fits),
      State.freeTag_of_closing (by rw [placed]; exact closing) (by rw [placed]; exact owner), placed]
  · exact congrArg _ ((State.answerClosing_of_lowest (State.lowestClosing_eq closing lowest)).trans
      (if_neg ((not_congr s.replySlot_iff).mpr full)))
  · rw [← or_assoc] at not
    exact congrArg _ (State.expireOwn_of_other (not.imp_left early))
  · rw [← or_assoc] at not
    exact congrArg _ (State.expireRequester_of_other (not.imp early .inl))

/-! ### The answer handed to a channel -/

section
variable {s : State} {c : Fin 2} {ch : Channel} {g : Fin 48} {index : Fin 64}

theorem State.channelAnswer_of_drain (here : s.channels[c] = ch) (drain : ch.state = .drain) (good : Bool)
    (data : List Word) :
    s.channelAnswer c g index good data =
      if (ch.withoutTag g).tagsHeld = [] then s.halted c (ch.withoutTag g) else s.setChannel c (ch.withoutTag g) := by
  have still : ch.running = false := by simp [Channel.running, drain]
  have kept : (ch.endTag g).state = .drain := drain
  simp only [State.channelAnswer, here, still, Bool.false_eq_true, if_false]
  exact State.setChannel_haltIfEmpty kept

theorem State.channelAnswer_of_bad (here : s.channels[c] = ch) (running : ch.running = true) (data : List Word) :
    s.channelAnswer c g index false data =
      (s.setChannel c (ch.withoutTag g)).enterDrain c .targetError (some index) none := by
  simp only [State.channelAnswer, here, running, if_true, Bool.false_eq_true, if_false]
  rfl

theorem State.channelAnswer_of_good (here : s.channels[c] = ch) (running : ch.running = true) (data : List Word) :
    s.channelAnswer c g index true data =
      (s.setChannel c (ch.withoutTag g)).goodAnswer c (ch.readList.find? (fun i => i.tag == some g)) data := by
  simp only [State.channelAnswer, here, running, if_true]
  rfl

theorem State.goodAnswer_of_copy {i : ReadItem} (copy : i.purpose = .copy) (data : List Word) :
    (s.setChannel c ch).goodAnswer c (some i) data =
      (s.setChannel c { ch with writeList := ch.writeList ++ [{ offset := i.offset, data := data }] }).advance c := by
  simp only [State.goodAnswer, copy, State.setChannel_channel, State.setChannel_setChannel]

theorem State.goodAnswer_of_scan {i : ReadItem} (scan : i.purpose = .scan) (data : List Word) :
    (s.setChannel c ch).goodAnswer c (some i) data =
      (s.setChannel c { ch with
        scanSum := ch.scanSum + data.foldl (· + ·) 0#32
        scanCount := ch.scanCount + BitVec.ofNat 32 data.length }).advance c := by
  simp only [State.goodAnswer, scan, State.setChannel_channel, State.setChannel_setChannel]

theorem Descriptor.bad_iff (d : Descriptor) :
    d.bad = true ↔ d.op = 3 ∨ d.wordCount = 0 ∨ (d.last = false ∧ d.next.toNat % 32 ≠ 0) := by
  simp only [Descriptor.bad, Bool.or_eq_true, Bool.and_eq_true, beq_iff_eq, bne_iff_ne, Bool.not_eq_true', or_assoc]

theorem State.goodAnswer_of_fetch {i : ReadItem} (fetch : i.purpose = .fetch) (d : Descriptor) :
    (s.setChannel c ch).goodAnswer c (some i) d.words =
      if d.bad = true then (s.setChannel c ch).enterDrain c .badDescriptor none none
      else (s.setChannel c { ch with
        descriptor := some d, wordsRemaining := d.wordCount, state := .run }).advance c := by
  have read : descriptorOf d.words = some d := rfl
  simp only [State.goodAnswer, fetch, State.acceptDescriptor, read, State.setChannel_channel, State.setChannel_setChannel]

end

/-- Settles O41: the answer of a channel's tag, by the channel's state and the read it answers. -/
theorem completionIsHandedToItsChannel : Obligations.CompletionIsHandedToItsChannel := by
  intro s packet rest g head weighed isCompletion named waiting owner a r c ch kept good ended run
  have handed : s.takeCompletion = ended.channelAnswer c g r.index (goodCompletion r a) a.data := by
    have own : (s.tags[g]).owner ≠ .requester := by rw [owner]; decide
    rw [State.takeCompletion_of_completion head weighed isCompletion, State.classify_of_waiting named waiting,
      State.matchCompletion, owner]
    dsimp only
    rw [State.matchChannel, State.dequeueD_of_head head,
      State.freeTag_of_own (s := s.headOffD rest) waiting own]
    rfl
  have here : ended.channels[c] = ch := by simp only [ended, State.fall_channels]; rfl
  have isGood : goodCompletion r a = true ↔ good := goodCompletion_iff r a
  refine ⟨fun drain held => congrArg _ ?_, fun drain empty => congrArg _ ?_, fun runs => ?_⟩
  · exact handed.trans ((State.channelAnswer_of_drain here drain _ _).trans (if_neg held))
  · exact handed.trans ((State.channelAnswer_of_drain here drain _ _).trans (if_pos empty))
  have running : ch.running = true := (Channel.running_iff ch).mpr runs
  have accepted (ok : good) :
      s.takeCompletion = (ended.setChannel c kept).goodAnswer c (ch.readList.find? (fun i => i.tag == some g)) a.data := by
    rw [handed, isGood.mpr ok]
    exact State.channelAnswer_of_good here running _
  refine ⟨fun bad => congrArg _ ?_, fun ok confirms => congrArg _ ?_, fun before after i ok list answers others => ?_⟩
  · rw [handed, Bool.eq_false_iff.mpr ((not_congr isGood).mpr bad)]
    exact State.channelAnswer_of_bad here running _
  · have noRead : ch.readList.find? (fun i => i.tag == some g) = none :=
      List.find?_eq_none.mpr fun i mem => by simpa using confirms i mem
    rw [accepted ok, noRead]
    rfl
  have theRead : ch.readList.find? (fun i => i.tag == some g) = some i :=
    List.find?_eq_some_iff_append.mpr ⟨by simpa using answers, before, after, list, fun j mem => by simpa using others j mem⟩
  have given := accepted ok
  rw [theRead] at given
  refine ⟨fun copy => congrArg _ ?_, fun scan => congrArg _ ?_, fun d fetch words => ?_⟩
  · exact given.trans (State.goodAnswer_of_copy copy _)
  · exact given.trans (State.goodAnswer_of_scan scan _)
  · rw [words] at given
    have judged := given.trans (State.goodAnswer_of_fetch fetch d)
    intro bad
    exact ⟨fun isBad => congrArg _ (judged.trans (if_pos (d.bad_iff.mpr isBad))),
      fun notBad => congrArg _ (judged.trans (if_neg ((not_congr d.bad_iff).mpr notBad)))⟩

end Sys2Proof.Machine

/-! Notices and replies (R121, R122, R153), and the commands of Table 9-3 but FENCE. Settles O47, O48, O50, O51, O53,
O54, O55 and O56. -/
namespace Sys2Proof.Machine

/-! ### Notices and the head of the reply queue -/

section
variable {s : State}

theorem State.noticeCondition_iff :
    s.noticeCondition = true ↔
      s.armed = true ∧ s.noticeRequester ≠ none ∧ s.pendingCauses &&& s.enabledCauses ≠ 0#6 ∧ s.uPort.state = .up := by
  simp only [State.noticeCondition, Bool.and_eq_true, Option.isSome_iff_ne_none, bne_iff_ne, beq_iff_eq, and_assoc]

theorem State.placeNotice_of_due {q : Fin 16} (requester : s.noticeRequester = some q) (condition : s.noticeCondition = true)
    (slot : s.replyQueue.length < 32) (up : s.uPort.state = .up) :
    s.placeNotice = { s with
      replyQueue := s.replyQueue ++ [.notice q (s.pendingCauses &&& s.enabledCauses) s.timeBase], armed := false } := by
  have may : (s.noticeCondition && decide (s.replyQueue.length < Config.replySlots)) = true := by
    rw [condition, Bool.true_and]
    exact decide_eq_true slot
  simp only [State.placeNotice, requester, may, if_true, State.placeReply_up _ _ up]

theorem State.placeNotice_of_not (not : s.noticeCondition = false ∨ 32 ≤ s.replyQueue.length) : s.placeNotice = s := by
  have mayNot : (s.noticeCondition && decide (s.replyQueue.length < Config.replySlots)) = false := by
    rw [Bool.and_eq_false_iff]
    exact not.imp_right fun full => decide_eq_false (Nat.not_lt.mpr full)
  cases requester : s.noticeRequester with
  | none => simp only [State.placeNotice, requester]
  | some q => simp only [State.placeNotice, requester, mayNot, Bool.false_eq_true, if_false]

theorem State.sendReply_of_not (not : s.replyQueue = [] ∨ ¬s.uPort.ready) : s.sendReply = s := by
  cases queue : s.replyQueue with
  | nil => simp only [State.sendReply, queue]
  | cons r rest =>
    have cannot : s.uPort.canSend = false :=
      Bool.eq_false_iff.mpr ((not_congr (LinkPort.canSend_iff _)).mpr (not.resolve_left (by rw [queue]; exact List.cons_ne_nil _ _)))
    simp only [State.sendReply, queue, cannot, Bool.false_eq_true, if_false]

theorem State.sendPacket_u_eq (packet : List Word) (s : State) :
    s.sendPacket .u packet = { s with
      uPort := s.uPort.afterSending packet s.timeBase
      wire := s.wire ++ [.unit .u (unitBytes (wrapUnit s.uPort.nextSeq packet))] } := by
  rw [← LinkPort.sent_eq_afterSending]
  rfl

theorem State.sendReply_of_head {r : Reply} {rest : List Reply} (queue : s.replyQueue = r :: rest) (ready : s.uPort.ready) :
    s.sendReply = ({ s with
      replyQueue := rest
      uPort := s.uPort.afterSending (writeReply r) s.timeBase
      wire := s.wire ++ [.unit .u (unitBytes (wrapUnit s.uPort.nextSeq (writeReply r)))] } : State).noteReplySlot := by
  simp only [State.sendReply, queue, (LinkPort.canSend_iff _).mpr ready, if_true]
  exact congrArg _ (State.sendPacket_u_eq _ _)

end

/-- Settles O47: the notice, and the head of the reply queue. -/
theorem noticeIsPlacedAndReplyHeadSent : Obligations.NoticeIsPlacedAndReplyHeadSent := by
  intro s
  refine ⟨fun q armed requester causes up slot => congrArg Host.Outcome.next ?_, fun not => congrArg Host.Outcome.next (State.placeNotice_of_not ?_),
    fun not => congrArg Host.Outcome.next (State.sendReply_of_not ?_), fun r rest queue ready => congrArg Host.Outcome.next (State.sendReply_of_head queue ready)⟩
  · exact State.placeNotice_of_due requester
      (State.noticeCondition_iff.mpr ⟨armed, by rw [requester]; exact Option.some_ne_none q, causes, up⟩) slot up
  · by_cases full : 32 ≤ s.replyQueue.length
    · exact .inr full
    · refine .inl (Bool.eq_false_iff.mpr ((not_congr State.noticeCondition_iff).mpr ?_))
      rintro ⟨armed, requester, causes, up⟩
      rcases not with unarmed | noRequester | noCause | down | isFull
      · exact absurd (armed.symm.trans unarmed) (by decide)
      · exact requester noRequester
      · exact causes noCause
      · exact down up
      · exact full isFull
  · refine not.imp_right ?_
    rintro blocked ⟨up, credit, room, idle⟩
    rcases blocked with down | noCredit | stored | replaying
    · exact down up
    · omega
    · omega
    · exact replaying idle

/-! ### A command taken in IDLE -/

section
variable {s : State} {a : Access} {operand : BitVec 16}

/-- A command taken in IDLE whose effect leaves the U port UP ends with its effect, its status and its reply. -/
theorem State.handed_takeCommand_of_up (managed : s.mayManage a) (idle : s.command.busy = false) (code : Byte)
    (operand : BitVec 16) {effect : Effect} {t : State} {result : Result} (done : effect s = (t, result))
    (up : t.uPort.state = .up) :
    s.handed a (State.takeCommand a code operand effect) = t.taken a code operand result := by
  rw [State.handed_of_handsOver a _ s managed.handsOver, State.takeCommand, idle, done]
  exact State.answer_of_up a .ok (s := { t with command := CommandStatus.record code operand a.requester result }) up

theorem State.handed_of_mayManage (managed : s.mayManage a) (act : State → State) : s.handed a act = act s :=
  State.handed_of_handsOver a act s managed.handsOver

theorem withRequester_of_gt (beyond : 15 < operand.toNat) (effect : Fin 16 → Effect) (s : State) :
    withRequester operand effect s = (s, .range) :=
  dif_neg (Nat.not_lt.mpr beyond)

theorem withRequester_of_eq {q : Fin 16} (index : operand.toNat = q.val) (effect : Fin 16 → Effect) (s : State) :
    withRequester operand effect s = effect q s := by
  simp only [withRequester, index, q.isLt, dif_pos, Fin.eta]

theorem withChannel_of_gt (beyond : 1 < operand.toNat) (effect : Fin 2 → Effect) (s : State) :
    withChannel operand effect s = (s, .range) :=
  dif_neg (Nat.not_lt.mpr beyond)

theorem withChannel_of_eq {c : Fin 2} (index : operand.toNat = c.val) (effect : Fin 2 → Effect) (s : State) :
    withChannel operand effect s = effect c s := by
  simp only [withChannel, index, c.isLt, dif_pos, Fin.eta]

/-! ### COMMIT and CANCEL -/

theorem State.takeCancel_of_idle (managed : s.mayManage a) (idle : s.command.busy = false) (operand : BitVec 16) :
    s.takeCancel a operand = s.taken a 0x02#8 operand .nothing := by
  simp only [State.takeCancel, idle, Bool.false_eq_true, if_false]
  exact State.answer_of_up a .ok (s := { s with command := _ }) managed.1

theorem State.takeCancel_of_busy (managed : s.mayManage a) (busy : s.command.busy = true) (operand : BitVec 16) :
    s.takeCancel a operand =
      State.taken a 0x02#8 operand .cancelled { s with pendingCauses := s.pendingCauses ||| 0x02#6 } := by
  simp only [State.takeCancel, busy, if_true]
  exact State.answer_of_up a .ok (s := State.raise .command { s with command := _ }) managed.1

theorem State.takeCommit_of_idle (managed : s.mayManage a) (idle : s.command.busy = false) (operand : BitVec 16) :
    s.takeCommit a operand =
      State.replied a .ok { s with command := CommandStatus.commitBegun operand (some a.requester) } := by
  simp only [State.takeCommit, idle, Bool.false_eq_true, if_false]
  exact State.answer_of_up a .ok (s := { s with command := _ }) managed.1

/-- Settles O48: COMMIT in IDLE; CANCEL in IDLE and while BUSY. -/
theorem commitBeginsAndCancelEnds : Obligations.CommitBeginsAndCancelEnds := by
  intro s a operand managed
  have hands (act : State → State) : s.handed a act = act s := State.handed_of_mayManage managed act
  exact ⟨fun idle => ⟨congrArg Host.Outcome.next ((hands _).trans (State.takeCommit_of_idle managed idle operand)),
      congrArg Host.Outcome.next ((hands _).trans (State.takeCancel_of_idle managed idle operand))⟩,
    fun busy => congrArg Host.Outcome.next ((hands _).trans (State.takeCancel_of_busy managed busy operand))⟩

/-! ### RESUME, DIGEST_CLEAR, UNFENCE and REVERT -/

theorem resumeEffect_of_stopped {r : Fin 64} (stopped : (s.regions[r]).runState ≠ .opened) :
    resumeEffect r s = (s.setRegion r { s.regions[r] with runState := .opened }, .done) := by
  cases runState : (s.regions[r]).runState with
  | opened => exact absurd runState stopped
  | quiescing => simp only [resumeEffect, runState]
  | quiesced => simp only [resumeEffect, runState]

theorem resumeEffect_of_opened {r : Fin 64} (opened : (s.regions[r]).runState = .opened) :
    resumeEffect r s = (s, .state) := by
  simp only [resumeEffect, opened]

theorem unfenceEffect_of_fenced {q : Fin 16} (fenced : (s.requesters[q]).state = .fenced) :
    unfenceEffect q s = (s.setRequester q { s.requesters[q] with state := .opened }, .done) :=
  if_pos (beq_iff_eq.mpr fenced)

theorem unfenceEffect_of_opened {q : Fin 16} (opened : (s.requesters[q]).state = .opened) :
    unfenceEffect q s = (s, .state) :=
  if_neg (by rw [opened]; decide)

/-- Settles O50. -/
theorem resumeDigestClearUnfenceAndRevert : Obligations.ResumeDigestClearUnfenceAndRevert := by
  intro s a operand managed idle
  have taken (code : Byte) {effect : Effect} {t : State} {result : Result} (done : effect s = (t, result))
      (same : t.uPort = s.uPort) : s.handed a (State.takeCommand a code operand effect) = t.taken a code operand result :=
    State.handed_takeCommand managed idle code operand done same
  refine ⟨fun r index => ⟨fun stopped => congrArg Host.Outcome.next ?_, fun opened => congrArg Host.Outcome.next ?_, congrArg Host.Outcome.next ?_⟩,
    fun q index => ⟨fun fenced => congrArg Host.Outcome.next ?_, fun opened => congrArg Host.Outcome.next ?_⟩, congrArg Host.Outcome.next (taken 0x03#8 rfl rfl)⟩
  · exact taken 0x11#8 ((withRegion_of_eq index _ s).trans (resumeEffect_of_stopped stopped)) rfl
  · exact taken 0x11#8 ((withRegion_of_eq index _ s).trans (resumeEffect_of_opened opened)) rfl
  · exact taken 0x12#8 (withRegion_of_eq index _ s) rfl
  · exact taken 0x21#8 ((withRequester_of_eq index _ s).trans (unfenceEffect_of_fenced fenced)) rfl
  · exact taken 0x21#8 ((withRequester_of_eq index _ s).trans (unfenceEffect_of_opened opened)) rfl

/-! ### The log, the notice unit and the counters -/

theorem logPopEffect_of_cons {record : FaultRecord} {rest : List FaultRecord} (log : s.faultLog = record :: rest) :
    logPopEffect s = ({ s with faultLog := rest }, .done) := by
  simp only [logPopEffect, log]

theorem logPopEffect_of_nil (log : s.faultLog = []) : logPopEffect s = (s, .empty) := by
  simp only [logPopEffect, log]

/-- Settles O51. -/
theorem logNoticeAndCounterCommands : Obligations.LogNoticeAndCounterCommands := by
  intro s a operand managed idle
  have taken (code : Byte) {effect : Effect} {t : State} {result : Result} (done : effect s = (t, result))
      (up : t.uPort.state = .up) : s.handed a (State.takeCommand a code operand effect) = t.taken a code operand result :=
    State.handed_takeCommand_of_up managed idle code operand done up
  refine ⟨fun head rest log => congrArg Host.Outcome.next (taken 0x30#8 (logPopEffect_of_cons log) managed.1),
    fun log => congrArg Host.Outcome.next (taken 0x30#8 (logPopEffect_of_nil log) managed.1), congrArg Host.Outcome.next (taken 0x31#8 rfl managed.1),
    congrArg Host.Outcome.next (taken 0x38#8 rfl managed.1), congrArg Host.Outcome.next (taken 0x39#8 rfl managed.1),
    _, congrArg Host.Outcome.next (taken 0x60#8 rfl managed.1), rfl, fun q => ?_⟩
  exact mapTable_getElem _ _ _

/-! ### The channel commands -/

theorem channelStartEffect_of_still {c : Fin 2} (still : (s.channels[c]).state = .idle ∨ (s.channels[c]).state = .halted) :
    channelStartEffect c s = ((s.setChannel c (s.channels[c]).start).formNext c, .done) :=
  if_pos (by simpa [-Fin.getElem_fin] using still)

theorem channelStartEffect_of_moving {c : Fin 2} (moving : (s.channels[c]).running = true ∨ (s.channels[c]).state = .drain) :
    channelStartEffect c s = (s, .state) := by
  refine if_neg ?_
  rw [Channel.running_iff] at moving
  rcases moving with (state | state) | state <;> rw [state] <;> decide

theorem channelStopEffect_of_running {c : Fin 2} (running : (s.channels[c]).running = true) :
    channelStopEffect c s = (s.enterDrain c .stopped none none, .done) :=
  if_pos running

theorem channelStopEffect_of_not_running {c : Fin 2} (still : (s.channels[c]).running = false) :
    channelStopEffect c s = (s, .state) :=
  if_neg (by rw [still]; decide)

theorem channelResumeEffect_of_halted {c : Fin 2} (halted : (s.channels[c]).state = .halted) :
    channelResumeEffect c s = ((s.setChannel c (s.channels[c]).resumed).formNext c, .done) :=
  if_pos (beq_iff_eq.mpr halted)

theorem channelResumeEffect_of_not_halted {c : Fin 2} (other : (s.channels[c]).state ≠ .halted) :
    channelResumeEffect c s = (s, .state) :=
  if_neg ((not_congr beq_iff_eq).mpr other)

/-- Settles O53: each channel command, by the state of the channel. -/
theorem channelCommands : Obligations.ChannelCommands := by
  intro s a operand c managed idle index ch cleared
  have taken (code : Byte) {effect : Fin 2 → Effect} {t : State} {result : Result} (done : effect c s = (t, result))
      (kept : t.uPort.state = s.uPort.state) :
      Host.Outcome.next (s.handed a (State.takeCommand a code operand (withChannel operand effect))) =
        (.next (t.taken a code operand result) : Host.Outcome State Fault Refusal) :=
    congrArg Host.Outcome.next (State.handed_takeCommand_of_up managed idle code operand
      ((withChannel_of_eq index effect s).trans done) (kept.trans managed.1))
  have formed (x : Channel) : ((s.setChannel c x).formNext c).uPort.state = s.uPort.state :=
    State.channelMoved_uPort (State.channelMoved_formNext c (s.setChannel c x))
  refine ⟨fun still => taken 0x40#8 (channelStartEffect_of_still still) (formed _),
    fun moving => taken 0x40#8 (channelStartEffect_of_moving moving) rfl,
    fun running => taken 0x41#8 (channelStopEffect_of_running running)
      (State.channelMoved_uPort (State.channelMoved_enterDrain c .stopped none none s)),
    fun still => taken 0x41#8 (channelStopEffect_of_not_running still) rfl, fun halted empty => ?_, fun d halted held => ?_,
    fun other => taken 0x42#8 (channelResumeEffect_of_not_halted other) rfl⟩
  · have resumed : ch.resumed = { cleared with state := .fetch } := by simp only [Channel.resumed, empty, cleared]
    rw [← resumed]
    exact taken 0x42#8 (channelResumeEffect_of_halted halted) (formed _)
  · have resumed : ch.resumed = { cleared with state := .run, wordsRemaining := d.wordCount } := by
      simp only [Channel.resumed, held, cleared]
    rw [← resumed]
    exact taken 0x42#8 (channelResumeEffect_of_halted halted) (formed _)

/-! ### LINK_RETRAIN and RESTART -/

theorem State.takeLoss_d_uState (s : State) : (s.takeLoss .d).uPort.state = s.uPort.state :=
  (State.weighs_takeLoss s).outer.uState

theorem State.resetPort_d_uState (s : State) (cause : ResetCause) :
    (s.resetPort .d cause).uPort.state = s.uPort.state := by
  by_cases up : s.dPort.state = .up
  · rw [State.resetPort_of_up (p := .d) up, State.downAndInit_d_eq]
    dsimp only
    rw [State.takeLoss_d_uState]
    dsimp only
    rw [State.linkLost_frame]
    rfl
  · rw [State.resetPort_of_not_up (p := .d) up, State.downAndInit_d_eq]

theorem State.resetPort_u_uState (s : State) (cause : ResetCause) : (s.resetPort .u cause).uPort.state = .init := by
  by_cases up : s.uPort.state = .up
  · rw [State.resetPort_of_up (p := .u) up, State.downAndInit_u_eq]
    rfl
  · rw [State.resetPort_of_not_up (p := .u) up, State.downAndInit_u_eq]
    rfl

/-- The answer to a command whose effect has taken the U port down is discarded. -/
theorem State.handed_takeCommand_of_not_up (managed : s.mayManage a) (idle : s.command.busy = false) (code : Byte)
    (operand : BitVec 16) {effect : Effect} {t : State} {result : Result} (done : effect s = (t, result))
    (down : t.uPort.state ≠ .up) :
    s.handed a (State.takeCommand a code operand effect) = { t with
      command := statusAfter a code operand result
      discardedReplies := if a.confirmed = true then t.discardedReplies + 1#32 else t.discardedReplies } := by
  rw [State.handed_of_mayManage managed, State.takeCommand, idle, done]
  simp only [Bool.false_eq_true, if_false, State.answer]
  by_cases confirmed : a.confirmed = true
  · rw [if_pos confirmed, if_pos confirmed]
    exact State.placeReply_not_up _ { t with command := _ } down
  · rw [if_neg confirmed, if_neg confirmed]
    rfl

theorem State.announceRestart_of_alive {p : Port} {s : State} (alive : (s.port p).state ≠ .down) :
    s.announceRestart p = { s with wire := s.wire ++ [symbolOn p 5#8 0#8] } := by
  cases state : (s.port p).state with
  | down => exact absurd state alive
  | init => simp only [State.announceRestart, state]; rfl
  | up => simp only [State.announceRestart, state]; rfl

theorem State.takeRestart_of_idle (managed : s.mayManage a) (idle : s.command.busy = false) (dAlive : s.dPort.state ≠ .down) :
    s.takeRestart a = State.startUp { s with wire := s.wire ++ [symbolOn .u 5#8 0#8] ++ [symbolOn .d 5#8 0#8] } := by
  have uAlive : s.uPort.state ≠ .down := by rw [managed.1]; decide
  simp only [State.takeRestart, idle, Bool.false_eq_true, if_false]
  rw [State.announceRestart_of_alive (p := .u) uAlive,
    State.announceRestart_of_alive (p := .d) (s := { s with wire := s.wire ++ [symbolOn .u 5#8 0#8] }) dAlive]

/-- Settles O54: LINK_RETRAIN of either port, and RESTART. -/
theorem retrainAndRestart : Obligations.RetrainAndRestart := by
  intro s a operand managed idle
  refine ⟨fun one => congrArg Host.Outcome.next ?_, fun zero => ?_, fun dAlive => congrArg Host.Outcome.next ?_⟩
  · subst one
    exact State.handed_takeCommand_of_up managed idle 0x50#8 1#16 (effect := linkRetrainEffect 1#16) rfl
      ((State.resetPort_d_uState s .command).trans managed.1)
  · intro t
    subst zero
    refine congrArg Host.Outcome.next
      (State.handed_takeCommand_of_not_up managed idle 0x50#8 0#16 (effect := linkRetrainEffect 0#16) rfl ?_)
    rw [State.resetPort_u_uState]
    decide
  · rw [State.handed_of_mayManage managed, State.takeRestart_of_idle managed idle dAlive, State.startUp_eq]
    simp only [List.append_assoc, List.cons_append, List.nil_append]

/-! ### Operands out of range, and unknown codes -/

theorem commandOf_eq_none {code : Byte}
    (unknown : ∀ known ∈ [0x01#8, 0x02#8, 0x03#8, 0x10#8, 0x11#8, 0x12#8, 0x20#8, 0x21#8, 0x30#8, 0x31#8, 0x38#8,
      0x39#8, 0x40#8, 0x41#8, 0x42#8, 0x50#8, 0x60#8, 0x7F#8], code ≠ known) : commandOf code = none := by
  refine List.find?_eq_none.mpr fun c _ same => unknown (commandCode c) ?_ (beq_iff_eq.mp same).symm
  cases c <;> decide

theorem linkRetrainEffect_of_gt (beyond : 1 < operand.toNat) (s : State) : linkRetrainEffect operand s = (s, .range) := by
  unfold linkRetrainEffect
  rw [if_neg (by rintro rfl; exact absurd beyond (by decide)), if_neg (by rintro rfl; exact absurd beyond (by decide))]

/-- Settles O55. -/
theorem operandOutOfRange : Obligations.OperandOutOfRange := by
  intro s a operand managed idle
  have taken (code : Byte) {effect : Effect} (done : effect s = (s, .range)) :
      Host.Outcome.next (s.handed a (State.takeCommand a code operand effect)) =
        (.next (s.taken a code operand .range) : Host.Outcome State Fault Refusal) :=
    congrArg Host.Outcome.next (State.handed_takeCommand managed idle code operand done rfl)
  refine ⟨fun beyond => ⟨taken 0x10#8 (withRegion_of_gt beyond _ s), taken 0x11#8 (withRegion_of_gt beyond _ s),
      taken 0x12#8 (withRegion_of_gt beyond _ s)⟩,
    fun beyond => ⟨taken 0x20#8 (withRequester_of_gt beyond _ s), taken 0x21#8 (withRequester_of_gt beyond _ s)⟩,
    fun beyond => ⟨taken 0x40#8 (withChannel_of_gt beyond _ s), taken 0x41#8 (withChannel_of_gt beyond _ s),
      taken 0x42#8 (withChannel_of_gt beyond _ s), taken 0x50#8 (linkRetrainEffect_of_gt beyond s)⟩, fun code unknown => ?_⟩
  have noCommand : (commandOf code).isNone = true := by rw [commandOf_eq_none unknown]; rfl
  simp only [exec, execUnknownCommand, noCommand, if_true]
  exact taken code rfl

/-! ### The refusal while BUSY (R130) -/

theorem State.refuseBusy_of_up (up : s.uPort.state = .up) (a : Access) (offset : Nat) :
    s.refuseBusy a offset = s.turnedAway a offset := by
  unfold State.refuseBusy State.turnedAway
  by_cases confirmed : a.confirmed = true
  · rw [if_pos confirmed, if_pos confirmed, State.answer, if_pos confirmed, State.placeReply_up _ _ up]
  · rw [if_neg confirmed, if_neg confirmed]
    rfl

theorem State.handed_takeCommand_of_busy (managed : s.mayManage a) (busy : s.command.busy = true) (code : Byte)
    (effect : Effect) : s.handed a (State.takeCommand a code operand effect) = s.turnedAway a 0 := by
  rw [State.handed_of_mayManage managed, State.takeCommand, if_pos busy, State.refuseBusy_of_up managed.1]

/-- Settles O56: every command but CANCEL, and the staging window. -/
theorem busyRefusesCommandsAndStaging : Obligations.BusyRefusesCommandsAndStaging := by
  intro s a operand managed busy
  have away (act : State → State) (refuses : act s = s.refuseBusy a 0) : s.handed a act = s.turnedAway a 0 := by
    rw [State.handed_of_mayManage managed, refuses, State.refuseBusy_of_up managed.1]
  have taken (code : Byte) (effect : Effect) :
      s.handed a (State.takeCommand a code operand effect) = s.turnedAway a 0 :=
    State.handed_takeCommand_of_busy managed busy code effect
  refine ⟨?_, fun code unknown => ?_, fun r w value => ?_⟩
  · simp only [List.forall_mem_cons, List.not_mem_nil, false_imp_iff, implies_true, and_true]
    exact ⟨congrArg Host.Outcome.next (away _ (if_pos busy)), congrArg Host.Outcome.next (taken _ _),
      congrArg Host.Outcome.next (taken _ _), congrArg Host.Outcome.next (taken _ _),
      congrArg Host.Outcome.next (taken _ _), congrArg Host.Outcome.next (taken _ _),
      congrArg Host.Outcome.next (taken _ _), congrArg Host.Outcome.next (taken _ _),
      congrArg Host.Outcome.next (taken _ _), congrArg Host.Outcome.next (taken _ _),
      congrArg Host.Outcome.next (taken _ _), congrArg Host.Outcome.next (taken _ _),
      congrArg Host.Outcome.next (taken _ _), congrArg Host.Outcome.next (taken _ _),
      congrArg Host.Outcome.next (taken _ _), congrArg Host.Outcome.next (taken _ _),
      congrArg Host.Outcome.next (away _ (if_pos busy))⟩
  · simp only [exec, execUnknownCommand, unknown, Option.isNone_none, if_true]
    exact congrArg Host.Outcome.next (taken code unknownEffect)
  · refine congrArg Host.Outcome.next ?_
    rw [State.handed_of_mayManage managed, State.writeStaging, if_pos busy, State.refuseBusy_of_up managed.1]

end

end Sys2Proof.Machine

/-! The management writes that are no commands (R2, R33, R34, R55, R86, R120, R128). Settles O57 and O58. -/
namespace Sys2Proof.Machine

section
variable {s : State} {a : Access}

/-! ### The staging window -/

theorem writtenPageCount_eq (w : Word) :
    writtenPageCount w = if 16777216 < (w.extractLsb' 0 25).toNat then 16777216#25 else w.extractLsb' 0 25 := rfl

theorem State.writeStaging_of_idle (managed : s.mayManage a) (idle : s.command.busy = false) (r : Fin 64) (w : Fin 4)
    (value : Word) :
    s.writeStaging a r w value =
      State.replied a .ok { s with staging := s.staging.set r ((s.staging[r]).writeWord w value) } := by
  unfold State.writeStaging
  rw [if_neg (by rw [idle]; decide)]
  exact State.answer_of_up a .ok (s := { s with staging := _ }) managed.1

/-! ### The configuration of a channel -/

theorem Channel.configurable_iff (ch : Channel) : ch.configurable = true ↔ ch.state = .idle ∨ ch.state = .halted := by
  simp only [Channel.configurable, Bool.or_eq_true, beq_iff_eq]

theorem Channel.not_configurable {ch : Channel} (moving : ch.running = true ∨ ch.state = .drain) :
    ¬ch.configurable = true := by
  rw [Channel.configurable_iff]
  rw [Channel.running_iff] at moving
  rcases moving with (state | state) | state <;> rw [state] <;> decide

theorem State.writeChannel_of_still (managed : s.mayManage a) {c : Fin 2}
    (still : (s.channels[c]).state = .idle ∨ (s.channels[c]).state = .halted) (w : Fin 3) (value : Word) :
    s.writeChannel a c w value =
      State.replied a .ok { s with channels := s.channels.set c ((s.channels[c]).writeWord w value) } := by
  unfold State.writeChannel
  rw [if_pos ((Channel.configurable_iff _).mpr still)]
  exact State.answer_of_up a .ok (s := { s with channels := _ }) managed.1

theorem State.writeChannel_of_moving (managed : s.mayManage a) {c : Fin 2}
    (moving : (s.channels[c]).running = true ∨ (s.channels[c]).state = .drain) (w : Fin 3) (value : Word) :
    s.writeChannel a c w value = s.turnedAway a (0x3000 + 0x40 * c.val + 4 * w.val) := by
  unfold State.writeChannel
  rw [if_neg (Channel.not_configurable moving), State.refuseBusy_of_up managed.1]

theorem requesterOf_low (w : Word) : requesterOf (w.extractLsb' 0 4) = Fin.ofNat 16 (w.toNat % 16) := by
  ext
  simp [requesterOf]

/-- The descriptor address keeps its upper four bits and takes the word with its five lowest bits off. -/
theorem firstDescriptor_low (high : BitVec 4) (value : Word) :
    (high ++ value.extractLsb' 5 27 ++ 0#5 : BitVec 36) = (high ++ (value &&& 0xFFFFFFE0#32) : BitVec 36) := by
  have mask : ∀ i : Fin 32, (0xFFFFFFE0#32).getLsbD i.val = decide (5 ≤ i.val) := by decide
  refine BitVec.eq_of_getLsbD_eq fun i bound => ?_
  rw [BitVec.getLsbD_append, BitVec.getLsbD_append, BitVec.getLsbD_append, BitVec.getLsbD_and]
  by_cases low : i < 5
  · have off : (0xFFFFFFE0#32).getLsbD i = false := (mask ⟨i, by omega⟩).trans (decide_eq_false (by simpa using low))
    rw [if_pos low, if_pos (by omega), off, Bool.and_false, BitVec.getLsbD_zero]
  rw [if_neg low]
  by_cases middle : i < 32
  · have on : (0xFFFFFFE0#32).getLsbD i = true := (mask ⟨i, middle⟩).trans (decide_eq_true (Nat.not_lt.mp low))
    rw [if_pos (by omega), if_pos middle, on, Bool.and_true, BitVec.getLsbD_extractLsb', decide_eq_true (by omega),
      Bool.true_and, show 5 + (i - 5) = i by omega]
  · rw [if_neg (by omega), if_neg middle, show i - 5 - 27 = i - 32 by omega]

/-- Settles O57. -/
theorem writesReplaceTheirFields : Obligations.WritesReplaceTheirFields := by
  intro s a value managed
  have hands (act : State → State) : s.handed a act = act s := State.handed_of_mayManage managed act
  refine ⟨fun r idle => ?_, congrArg Host.Outcome.next ?_, congrArg Host.Outcome.next ?_, fun c => ?_, fun word ignored => ?_⟩
  · intro e whole put
    have written (w : Fin 4) : exec (.stagingWrite a r w value) s = .next (put (e.writeWord w value)) :=
      congrArg Host.Outcome.next ((hands _).trans (State.writeStaging_of_idle managed idle r w value))
    exact ⟨written 0, written 1, written 2, written 3⟩
  · rw [hands, State.writeTimeout, writtenTimeout_eq]
    exact State.answer_of_up a .ok (s := { s with replyTimeout := _ }) managed.1
  · rw [hands, State.writeNotice, writtenNoticeRequester_eq]
    exact State.answer_of_up a .ok (s := { s with noticeRequester := _, enabledCauses := _ }) managed.1
  · intro ch put
    refine ⟨fun still => ?_, fun moving w =>
      congrArg Host.Outcome.next ((hands _).trans (State.writeChannel_of_moving managed moving w value))⟩
    have written (w : Fin 3) : exec (.channelConfigurationWrite a c w value) s = .next (put (ch.writeWord w value)) :=
      congrArg Host.Outcome.next ((hands _).trans (State.writeChannel_of_still managed still w value))
    refine ⟨?_, ?_, written 2⟩
    · rw [written 0, Channel.writeWord, requesterOf_low]
    · rw [written 1, Channel.writeWord, firstDescriptor_low]
  · simp only [exec, execReadOnlyWrite, ignored, Bool.false_eq_true, if_false, hands, State.writeIgnored]
    exact congrArg Host.Outcome.next (State.answer_of_up a .ok managed.1)

/-! ### The requester records -/

theorem hasOpenManager_iff (table : Vector RequesterRecord 16) :
    hasOpenManager table = true ↔ ∃ x : Fin 16, (table[x]).state = .opened ∧ (table[x]).right = true := by
  simp only [hasOpenManager, List.any_eq_true, Bool.and_eq_true, beq_iff_eq]
  constructor
  · rintro ⟨r, mem, holds⟩
    obtain ⟨i, bound, rfl⟩ := Vector.mem_iff_getElem.mp (Vector.mem_toList_iff.mp mem)
    exact ⟨⟨i, bound⟩, holds⟩
  · rintro ⟨x, holds⟩
    exact ⟨table[x], Vector.mem_toList_iff.mpr (Vector.getElem_mem x.isLt), holds⟩

/-- The lockout guard refuses exactly a write that takes the last right away (R34). -/
theorem State.lockedOut_iff (s : State) (q : Fin 16) (value : Word) :
    s.lockedOut q value = true ↔
      ¬(value.getLsbD 0 = true ∨ (s.requesters[q]).right = false ∨
        ∃ x : Fin 16, x ≠ q ∧ (s.requesters[x]).state = .opened ∧ (s.requesters[x]).right = true) := by
  have keeps (taken : value.getLsbD 0 = false) :
      (∃ x : Fin 16, ((s.requesters.set q (s.writtenRequester q value))[x]).state = .opened ∧
        ((s.requesters.set q (s.writtenRequester q value))[x]).right = true) ↔
      ∃ x : Fin 16, x ≠ q ∧ (s.requesters[x]).state = .opened ∧ (s.requesters[x]).right = true := by
    refine exists_congr fun x => ?_
    rw [getElem_set_fin]
    split
    next same => simp only [State.writtenRequester, writtenRight, taken, same.symm, ne_eq, not_true_eq_false, false_and,
        Bool.false_eq_true, and_false]
    next other => simp [-Fin.getElem_fin, Ne.symm other]
  rw [State.lockedOut, writtenRight]
  cases taken : value.getLsbD 0 with
  | true => simp
  | false =>
    rw [Bool.and_eq_true, Bool.and_eq_true, Bool.not_eq_true' (hasOpenManager _), ← Bool.not_eq_true (hasOpenManager _),
      hasOpenManager_iff, keeps taken]
    simp [-Fin.getElem_fin]

/-- Settles O58. -/
theorem requesterWriteKeepsAManager : Obligations.RequesterWriteKeepsAManager := by
  intro s a q value managed other keeps
  have hands (act : State → State) : s.handed a act = act s := State.handed_of_mayManage managed act
  refine ⟨fun kept => congrArg Host.Outcome.next ?_, fun lost => congrArg Host.Outcome.next ?_⟩
  · have free : ¬s.lockedOut q value = true := (not_congr (s.lockedOut_iff q value)).mpr (not_not_intro kept)
    rw [hands, State.writeRequester, if_neg free, State.writtenRequester, writtenLimit_eq]
    exact State.answer_of_up a .ok (s := State.setRequester q _ s) managed.1
  · rw [hands, State.writeRequester, if_pos ((s.lockedOut_iff q value).mpr lost)]
    have place : apertureAddress (0x0100 + 0x20 * q.val) = BitVec.ofNat 36 (0xFFFFF0100 + 0x20 * q.val) := by
      rw [apertureAddress, ← Nat.add_assoc]
    rw [place]
    refine State.answer_of_up a .refused ?_
    rw [State.takeFault_frame]
    exact managed.1

end

end Sys2Proof.Machine

/-! Link units and packets on the wire (R142, R143, R171, Tables 12-1 and 12-5). Settles O59. -/
namespace Sys2Proof.Machine

/-! ### The check codes, bit by bit -/

theorem byteBits_eq_map (b : Byte) : byteBits b = [7, 6, 5, 4, 3, 2, 1, 0].map (fun i => b.getLsbD i) := rfl

theorem crc16Bit_eq (r : BitVec 16) (b : Bool) :
    crc16Bit r b = (r <<< 1) ^^^ (if r.getLsbD 15 = b then 0#16 else 0x1021#16) := by
  have top : r.msb = r.getLsbD 15 := BitVec.msb_eq_getLsbD_last r
  unfold crc16Bit
  by_cases same : r.getLsbD 15 = b
  · rw [if_neg (by rw [top, same, bne_self_eq_false]; decide), if_pos same, BitVec.xor_zero]
  · rw [if_pos (by simpa [top] using same), if_neg same]

theorem crc8Bit_eq (r : BitVec 8) (b : Bool) :
    crc8Bit r b = (r <<< 1) ^^^ (if r.getLsbD 7 = b then 0#8 else 0x07#8) := by
  have top : r.msb = r.getLsbD 7 := BitVec.msb_eq_getLsbD_last r
  unfold crc8Bit
  by_cases same : r.getLsbD 7 = b
  · rw [if_neg (by rw [top, same, bne_self_eq_false]; decide), if_pos same, BitVec.xor_zero]
  · rw [if_pos (by simpa [top] using same), if_neg same]

theorem crc16_concat (bytes : List Byte) (b : Byte) :
    crc16 (bytes ++ [b]) = [7, 6, 5, 4, 3, 2, 1, 0].foldl
      (fun (r : BitVec 16) i => (r <<< 1) ^^^ (if r.getLsbD 15 = b.getLsbD i then 0#16 else 0x1021#16)) (crc16 bytes) := by
  simp only [crc16, List.flatMap_append, List.foldl_append, List.flatMap_singleton, byteBits_eq_map b, List.foldl_map,
    crc16Bit_eq]

theorem byteBits_append (high low : Byte) :
    byteBits high ++ byteBits low =
      [15, 14, 13, 12, 11, 10, 9, 8, 7, 6, 5, 4, 3, 2, 1, 0].map (fun i => (high ++ low : BitVec 16).getLsbD i) := by
  simp only [byteBits, List.cons_append, List.nil_append, List.map_cons, List.map_nil, BitVec.getLsbD_append]
  rfl

theorem crc8_eq (kind value : Byte) :
    crc8 kind value = [15, 14, 13, 12, 11, 10, 9, 8, 7, 6, 5, 4, 3, 2, 1, 0].foldl
      (fun (r : BitVec 8) i =>
        (r <<< 1) ^^^ (if r.getLsbD 7 = (kind ++ value : BitVec 16).getLsbD i then 0#8 else 0x07#8)) 0x00#8 := by
  rw [crc8, byteBits_append, List.foldl_map]
  simp only [crc8Bit_eq]

/-! ### Bytes and words -/

theorem bytesWord_wordBytes (w : Word) :
    bytesWord (w.extractLsb' 0 8) (w.extractLsb' 8 8) (w.extractLsb' 16 8) (w.extractLsb' 24 8) = w := by
  rw [bytesWord, BitVec.extractLsb'_append_extractLsb'_eq_extractLsb' (start₂ := 24) (start₁ := 16) rfl,
    BitVec.extractLsb'_append_extractLsb'_eq_extractLsb' (start₂ := 16) (start₁ := 8) rfl,
    BitVec.extractLsb'_append_extractLsb'_eq_extractLsb' (start₂ := 8) (start₁ := 0) rfl]
  exact BitVec.extractLsb'_eq_self

theorem bytesWords_flatMap_wordBytes (packet : List Word) : bytesWords (packet.flatMap wordBytes) = packet := by
  induction packet with
  | nil => rfl
  | cons w rest ih =>
    have cons : bytesWords (wordBytes w ++ rest.flatMap wordBytes) =
        bytesWord (w.extractLsb' 0 8) (w.extractLsb' 8 8) (w.extractLsb' 16 8) (w.extractLsb' 24 8) ::
          bytesWords (rest.flatMap wordBytes) := rfl
    rw [List.flatMap_cons, cons, bytesWord_wordBytes, ih]

theorem length_flatMap_wordBytes (packet : List Word) : (packet.flatMap wordBytes).length = 4 * packet.length := by
  induction packet with
  | nil => rfl
  | cons w rest ih =>
    rw [List.flatMap_cons, List.length_append, ih, List.length_cons]
    simp only [wordBytes, List.length_cons, List.length_nil]
    omega

/-! ### Link units -/

theorem readUnit_concat (seqByte : Byte) (body : List Byte) (high low : Byte) :
    readUnit (seqByte :: body ++ [high, low]) =
      if unitLengthOk (body.length + 3) = true ∧ crc16 (seqByte :: body) = high ++ low then
        some (seqByte.extractLsb' 0 7, bytesWords body)
      else none := by
  have length : (body ++ [high, low]).length - 2 = body.length := by simp
  have front : (body ++ [high, low]).take body.length = body := List.take_left
  have back : (body ++ [high, low]).drop body.length = [high, low] := List.drop_left
  have whole : (seqByte :: body ++ [high, low]).length = body.length + 3 := by simp
  have shape : seqByte :: body ++ [high, low] = seqByte :: (body ++ [high, low]) := rfl
  rw [shape] at whole ⊢
  simp only [readUnit, whole, length, front, back, Bool.and_eq_true, beq_iff_eq]

theorem readUnit_of_bad_length {bytes : List Byte} (bad : ¬(7 ≤ bytes.length ∧ bytes.length ≤ 75 ∧ bytes.length % 4 = 3)) :
    readUnit bytes = none := by
  have notOk : unitLengthOk bytes.length = false := by
    rw [Bool.eq_false_iff]
    simpa [unitLengthOk, and_assoc] using bad
  unfold readUnit
  split
  · rfl
  · split
    · rw [notOk]
      rfl
    · rfl

theorem unitLengthOk_of_packet {packet : List Word} (least : 1 ≤ packet.length) (most : packet.length ≤ 18) :
    unitLengthOk (4 * packet.length + 3) = true := by
  simp only [unitLengthOk, Bool.and_eq_true, decide_eq_true_eq, beq_iff_eq]
  omega

/-- The bytes of a packet of 1 to 18 words are read back, when the code is that of the bytes (R142, R171). -/
theorem readUnit_coveredBytes (seqByte : Byte) {packet : List Word} (high low : Byte) (least : 1 ≤ packet.length)
    (most : packet.length ≤ 18) :
    readUnit (coveredBytes seqByte packet ++ [high, low]) =
      if crc16 (coveredBytes seqByte packet) = high ++ low then some (seqByte.extractLsb' 0 7, packet) else none := by
  rw [coveredBytes, readUnit_concat, length_flatMap_wordBytes, bytesWords_flatMap_wordBytes,
    unitLengthOk_of_packet least most]
  simp only [true_and]

theorem unitBytes_wrapUnit {n : BitVec 7} {packet : List Word} {high low : Byte}
    (code : crc16 (coveredBytes (n.setWidth 8) packet) = high ++ low) :
    unitBytes (wrapUnit n packet) = coveredBytes (n.setWidth 8) packet ++ [high, low] := by
  simp only [unitBytes, wrapUnit, code, BitVec.extractLsb'_append_eq_left, BitVec.extractLsb'_append_eq_right]

theorem readUnit_unitBytes (n : BitVec 7) {packet : List Word} (least : 1 ≤ packet.length) (most : packet.length ≤ 18) :
    readUnit (unitBytes (wrapUnit n packet)) = some (n, packet) := by
  have code : (wrapUnit n packet).code.extractLsb' 8 8 ++ (wrapUnit n packet).code.extractLsb' 0 8 =
      crc16 (coveredBytes (n.setWidth 8) packet) :=
    (BitVec.extractLsb'_append_extractLsb'_eq_extractLsb' rfl).trans BitVec.extractLsb'_eq_self
  have seq : (n.setWidth 8).extractLsb' 0 7 = n :=
    (BitVec.extractLsb'_setWidth_of_le (by decide)).trans BitVec.extractLsb'_eq_self
  have read := readUnit_coveredBytes (n.setWidth 8) ((wrapUnit n packet).code.extractLsb' 8 8)
    ((wrapUnit n packet).code.extractLsb' 0 8) least most
  rw [if_pos code.symm, seq] at read
  exact read

/-! ### Reading a field that a word shows -/

/-- A field of a word that no other field of it overlaps is read with its value. -/
theorem showsFields.bits_eq {w : Word} {fields : List (Nat × Nat × Nat)} (shows : showsFields w fields)
    {low width x : Nat} (mem : (low, width, x) ∈ fields) (inside : low + width ≤ 32)
    (apart : ∀ f ∈ fields, f = (low, width, x) ∨ f.1 + f.2.1 ≤ low ∨ low + width ≤ f.1) :
    bits w low width = x % 2 ^ width := by
  refine Nat.eq_of_testBit_eq fun i => ?_
  rw [bits, Nat.testBit_mod_two_pow, Nat.testBit_mod_two_pow, Nat.testBit_shiftRight]
  by_cases within : i < width
  · have shown : w.toNat.testBit (low + i) = _ := shows ⟨low + i, by omega⟩
    rw [shown]
    congr 1
    rw [Bool.eq_iff_iff, List.any_eq_true]
    constructor
    · rintro ⟨f, memF, holds⟩
      simp only [Bool.and_eq_true, decide_eq_true_eq] at holds
      obtain ⟨⟨above, below⟩, bit⟩ := holds
      rcases apart f memF with rfl | before | after
      · simpa using bit
      · omega
      · omega
    · intro bit
      exact ⟨_, mem, by simp [within, bit]⟩
  · simp [within]

/-! ### Packets -/

/-- Word 0 of a request (Table 12-5). -/
def requestHeader (kind : RequestKind) (q : Fin 16) (tag : Nat) (address : Address) (n : Nat) (first last : BitVec 4) :
    Word :=
  field 0 0 2 ||| field (kindCode kind) 2 3 ||| field q.val 5 4 ||| field tag 9 8 ||| field n 17 5 |||
    field first.toNat 22 4 ||| field last.toNat 26 4 ||| field (address.toNat >>> 34) 30 2

theorem addressWord_eq (address : Address) : address.extractLsb' 2 32 = BitVec.ofNat 32 (address.toNat / 4) := by
  refine BitVec.eq_of_toNat_eq ?_
  rw [BitVec.extractLsb'_toNat, BitVec.toNat_ofNat, Nat.shiftRight_eq_div_pow]

theorem writeRequest_eq (kind : RequestKind) (q : Fin 16) (tag : Nat) (address : Address) (n : Nat)
    (first last : BitVec 4) (data : List Word) :
    writeRequest kind q tag address n first last data =
      requestHeader kind q tag address n first last :: BitVec.ofNat 32 (address.toNat / 4) :: data := by
  rw [writeRequest, addressWord_eq]
  rfl

theorem showsFields_requestHeader (kind : RequestKind) (q : Fin 16) (tag : Nat) (address : Address) (n : Nat)
    (first last : BitVec 4) :
    showsFields (requestHeader kind q tag address n first last)
      [(0, 2, 0), (2, 3, kindCode kind), (5, 4, q.val), (9, 8, tag), (17, 5, n), (22, 4, first.toNat),
        (26, 4, last.toNat), (30, 2, address.toNat / 2 ^ 34)] := by
  rw [← Nat.shiftRight_eq_div_pow]
  exact showsFields_or (showsFields_or (showsFields_or (showsFields_or (showsFields_or (showsFields_or (showsFields_or
    (showsFields_field _ _ _) (showsFields_field _ _ _)) (showsFields_field _ _ _)) (showsFields_field _ _ _))
    (showsFields_field _ _ _)) (showsFields_field _ _ _)) (showsFields_field _ _ _)) (showsFields_field _ _ _)

theorem readRequest_two_words (w low : Word) (data : List Word) :
    readRequest (w :: low :: data) =
      { kindCode := bits w 2 3, requester := requesterOf (w.extractLsb' 5 4), tag := w.extractLsb' 9 8
        wordCount := bits w 17 5, firstEnables := w.extractLsb' 22 4, lastEnables := w.extractLsb' 26 4
        address := some (w.extractLsb' 30 2 ++ low ++ 0#2 : BitVec 36), data := data } := rfl

theorem readRequest_one_word (w : Word) :
    readRequest [w] =
      { kindCode := bits w 2 3, requester := requesterOf (w.extractLsb' 5 4), tag := w.extractLsb' 9 8
        wordCount := bits w 17 5, firstEnables := w.extractLsb' 22 4, lastEnables := w.extractLsb' 26 4
        address := none, data := [] } := rfl

theorem toNat_extractLsb'_eq_bits (w : Word) (low width : Nat) : (w.extractLsb' low width).toNat = bits w low width :=
  BitVec.extractLsb'_toNat low width w

/-- The address of a request: two bits of word 0 over word 1, in words (Table 12-5). -/
theorem requestAddress_toNat (w low : Word) :
    (w.extractLsb' 30 2 ++ low ++ 0#2 : BitVec 36).toNat = (bits w 30 2 * 2 ^ 32 + low.toNat) * 4 := by
  rw [BitVec.toNat_append, BitVec.toNat_append, ← Nat.shiftLeft_add_eq_or_of_lt low.isLt,
    ← Nat.shiftLeft_add_eq_or_of_lt (0#2 : BitVec 2).isLt, toNat_extractLsb'_eq_bits, Nat.shiftLeft_eq, Nat.shiftLeft_eq,
    BitVec.toNat_ofNat, Nat.zero_mod, Nat.add_zero]

theorem kindCode_lt (kind : RequestKind) : kindCode kind < 3 := by cases kind <;> decide

/-- A request that the gate sends is read back with every field it was formed from (R81). -/
theorem readRequest_writeRequest (kind : RequestKind) (q : Fin 16) (tag : BitVec 8) (address : Address) {n : Nat}
    (first last : BitVec 4) (data : List Word) (bound : n ≤ 31) (aligned : address.toNat % 4 = 0) :
    readRequest (writeRequest kind q tag.toNat address n first last data) =
      { kindCode := kindCode kind, requester := q, tag := tag, wordCount := n, firstEnables := first,
        lastEnables := last, address := some address, data := data } := by
  have shows := showsFields_requestHeader kind q tag.toNat address n first last
  have kindRead : bits (requestHeader kind q tag.toNat address n first last) 2 3 = kindCode kind := by
    rw [shows.bits_eq (x := kindCode kind) (by simp) (by decide) (by simp)]
    exact Nat.mod_eq_of_lt (Nat.lt_trans (kindCode_lt kind) (by decide))
  have ownerRead : requesterOf ((requestHeader kind q tag.toNat address n first last).extractLsb' 5 4) = q := by
    refine Fin.ext ((toNat_extractLsb'_eq_bits _ _ _).trans ?_)
    rw [shows.bits_eq (x := q.val) (by simp) (by decide) (by simp)]
    exact Nat.mod_eq_of_lt q.isLt
  have tagRead : (requestHeader kind q tag.toNat address n first last).extractLsb' 9 8 = tag := by
    refine BitVec.eq_of_toNat_eq ((toNat_extractLsb'_eq_bits _ _ _).trans ?_)
    rw [shows.bits_eq (x := tag.toNat) (by simp) (by decide) (by simp)]
    exact Nat.mod_eq_of_lt tag.isLt
  have countRead : bits (requestHeader kind q tag.toNat address n first last) 17 5 = n := by
    rw [shows.bits_eq (x := n) (by simp) (by decide) (by simp)]
    exact Nat.mod_eq_of_lt (by omega)
  have firstRead : (requestHeader kind q tag.toNat address n first last).extractLsb' 22 4 = first := by
    refine BitVec.eq_of_toNat_eq ((toNat_extractLsb'_eq_bits _ _ _).trans ?_)
    rw [shows.bits_eq (x := first.toNat) (by simp) (by decide) (by simp)]
    exact Nat.mod_eq_of_lt first.isLt
  have lastRead : (requestHeader kind q tag.toNat address n first last).extractLsb' 26 4 = last := by
    refine BitVec.eq_of_toNat_eq ((toNat_extractLsb'_eq_bits _ _ _).trans ?_)
    rw [shows.bits_eq (x := last.toNat) (by simp) (by decide) (by simp)]
    exact Nat.mod_eq_of_lt last.isLt
  have addressRead : ((requestHeader kind q tag.toNat address n first last).extractLsb' 30 2 ++
      BitVec.ofNat 32 (address.toNat / 4) ++ 0#2 : BitVec 36) = address := by
    refine BitVec.eq_of_toNat_eq ((requestAddress_toNat _ _).trans ?_)
    rw [shows.bits_eq (x := address.toNat / 2 ^ 34) (by simp) (by decide) (by simp), BitVec.toNat_ofNat]
    have := address.isLt
    omega
  rw [writeRequest_eq, readRequest_two_words, kindRead, ownerRead, tagRead, countRead, firstRead, lastRead, addressRead]

theorem packetType_writeRequest (kind : RequestKind) (q : Fin 16) (tag : Nat) (address : Address) (n : Nat)
    (first last : BitVec 4) (data : List Word) : packetType (writeRequest kind q tag address n first last data) = 0 := by
  rw [writeRequest_eq]
  exact (showsFields_requestHeader kind q tag address n first last).bits_eq (x := 0) (by simp) (by decide) (by simp)

theorem bits_eq_div_mod (w : Word) (low width : Nat) : bits w low width = w.toNat / 2 ^ low % 2 ^ width := by
  rw [bits, Nat.shiftRight_eq_div_pow]

theorem requesterOf_extract (w : Word) : requesterOf (w.extractLsb' 5 4) = Fin.ofNat 16 (w.toNat / 2 ^ 5) :=
  Fin.ext ((toNat_extractLsb'_eq_bits _ _ _).trans (bits_eq_div_mod w 5 4))

/-- Settles O59. -/
theorem unitsAndPacketsReadBack : Obligations.UnitsAndPacketsReadBack := by
  refine ⟨⟨rfl, crc16_concat, crc8_eq⟩, fun seqByte packet high low least most => ?_,
    fun n packet least most => readUnit_unitBytes n least most, fun bytes bad => readUnit_of_bad_length bad,
    fun kind q tag address n first last data bound aligned => ⟨packetType_writeRequest _ _ _ _ _ _ _ _,
      readRequest_writeRequest kind q tag address first last data bound aligned⟩,
    ⟨rfl, rfl⟩, fun w low data => ?_, fun kind q tag address n first last data =>
      ⟨_, writeRequest_eq kind q tag address n first last data, showsFields_requestHeader kind q tag address n first last⟩,
    fun q tag status data => ⟨_, rfl, ?_⟩, fun q causes timestamp => ⟨_, rfl, ?_⟩⟩
  · intro covered
    have read := readUnit_coveredBytes seqByte high low least most
    refine ⟨fun code => read.trans (if_pos code), fun wrong => read.trans (if_neg wrong), fun n seq code => ?_⟩
    subst seq
    exact unitBytes_wrapUnit code
  · intro read
    have address : (w.extractLsb' 30 2 ++ low ++ 0#2 : BitVec 36) =
        BitVec.ofNat 36 ((w.toNat / 2 ^ 30 * 2 ^ 32 + low.toNat) * 4) := by
      refine BitVec.eq_of_toNat_eq ((requestAddress_toNat w low).trans ?_)
      have high := w.isLt
      have lower := low.isLt
      rw [bits_eq_div_mod, BitVec.toNat_ofNat]
      omega
    refine ⟨rfl, ?_, ?_, ?_⟩
    · rw [readRequest_two_words, requesterOf_extract, bits_eq_div_mod, bits_eq_div_mod, address] <;> rfl
    · rw [readRequest_one_word, requesterOf_extract, bits_eq_div_mod, bits_eq_div_mod] <;> rfl
    · simp only [readCompletion, List.headD_cons, List.drop_one, List.tail_cons, bits_eq_div_mod] <;> rfl
  · exact showsFields_or (showsFields_or (showsFields_or (showsFields_field _ _ _) (showsFields_field _ _ _))
      (showsFields_field _ _ _)) (showsFields_field _ _ _)
  · exact showsFields_or (showsFields_or (showsFields_field _ _ _) (showsFields_field _ _ _)) (showsFields_field _ _ _)

end Sys2Proof.Machine

/-! The fence flush (R47, R54, R76): which tags become FREE, which items end and what the counts lose by it. Settles
O52. -/
namespace Sys2Proof.Machine

/-! ### Several falls of one count -/

/-- `k` falls of its count drain a QUIESCING index (R23). -/
def RegionStatus.drainsIn (x : RegionStatus) (k : Nat) : Prop := x.runState = .quiescing ∧ 1 ≤ k ∧ x.inFlight ≤ k

theorem RegionStatus.fall_of_drains {x : RegionStatus} (drains : x.drainsIn 1) :
    x.fall = { runState := .quiesced, inFlight := x.inFlight - 1 } := by
  obtain ⟨quiescing, -, few⟩ := drains
  have last : x.inFlight - 1 = 0 := by omega
  simp [RegionStatus.fall, quiescing, last]

theorem RegionStatus.fall_of_not_drains {x : RegionStatus} (not : ¬x.drainsIn 1) :
    x.fall = { x with inFlight := x.inFlight - 1 } := by
  have condition : ¬(x.runState == .quiescing && x.inFlight - 1 == 0) = true := by
    rw [Bool.and_eq_true, beq_iff_eq, beq_iff_eq]
    rintro ⟨quiescing, last⟩
    exact not ⟨quiescing, Nat.le_refl 1, by omega⟩
  rw [RegionStatus.fall, if_neg condition]

/-- A fall now and `k` later drain an index exactly when the first does or the later ones do. -/
theorem RegionStatus.drainsIn_succ (x : RegionStatus) (k : Nat) : x.drainsIn (k + 1) ↔ x.drainsIn 1 ∨ x.fall.drainsIn k := by
  by_cases now : x.drainsIn 1
  · obtain ⟨quiescing, -, few⟩ := now
    exact ⟨fun _ => .inl ⟨quiescing, Nat.le_refl 1, few⟩, fun _ => ⟨quiescing, by omega, by omega⟩⟩
  · rw [RegionStatus.fall_of_not_drains now, or_iff_right now]
    unfold RegionStatus.drainsIn at *
    dsimp only
    constructor
    · rintro ⟨quiescing, -, few⟩
      have several : ¬x.inFlight ≤ 1 := fun one => now ⟨quiescing, Nat.le_refl 1, one⟩
      exact ⟨quiescing, by omega, by omega⟩
    · rintro ⟨quiescing, least, few⟩
      exact ⟨quiescing, by omega, by omega⟩

/-- `k` falls of a count, one after another. -/
def RegionStatus.falls : Nat → RegionStatus → RegionStatus
  | 0, x => x
  | k + 1, x => RegionStatus.falls k x.fall

/-- A region status record after `k` falls of its count. -/
theorem RegionStatus.falls_eq (k : Nat) (x : RegionStatus) :
    (x.drainsIn k → RegionStatus.falls k x = { runState := .quiesced, inFlight := x.inFlight - k }) ∧
      (¬x.drainsIn k → RegionStatus.falls k x = { x with inFlight := x.inFlight - k }) := by
  induction k generalizing x with
  | zero => exact ⟨fun drains => absurd drains.2.1 (by decide), fun _ => rfl⟩
  | succ k ih =>
    obtain ⟨whenDrains, whenNot⟩ := ih x.fall
    have left : x.fall.inFlight - k = x.inFlight - (k + 1) := by
      have once : x.fall.inFlight = x.inFlight - 1 := rfl
      omega
    rw [RegionStatus.falls, RegionStatus.drainsIn_succ]
    by_cases now : x.drainsIn 1
    · have fallen := RegionStatus.fall_of_drains now
      have later : ¬x.fall.drainsIn k := by rw [fallen]; exact fun drains => RunState.noConfusion drains.1
      refine ⟨fun _ => ?_, fun not => absurd (.inl now) not⟩
      rw [whenNot later, left, fallen]
    · have fallen := RegionStatus.fall_of_not_drains now
      refine ⟨fun drains => ?_, fun not => ?_⟩
      · rw [whenDrains (drains.resolve_left now), left]
      · rw [whenNot (fun drains => not (.inr drains)), left, fallen]

/-! ### Items that end while no commit is in DRAIN -/

/-- Items, each an index and a generation, end one after another (R12, R13). -/
def State.endItems (items : List (Fin 64 × BitVec 8)) (s : State) : State := items.foldl (fun u i => u.fall i.1 i.2) s

theorem State.fall_of_not_draining {s : State} (idle : s.command.phase ≠ some .drain) (r : Fin 64) (g : BitVec 8) :
    s.fall r g = (s.fallIndex r).fallTotal g := by
  have kept : ((s.fallIndex r).fallTotal g).command = s.command := by
    rw [State.fallTotal_frame, State.fallIndex_frame]
  exact State.swapIfDrained_of_other (.inl (by rw [kept]; exact idle))

section
variable {s : State} (idle : s.command.phase ≠ some .drain) (r : Fin 64) (g : BitVec 8)
include idle

theorem State.fall_regions : (s.fall r g).regions = s.regions.set r (s.regions[r]).fall := by
  rw [State.fall_of_not_draining idle, State.fallTotal_frame]
  unfold State.fallIndex
  dsimp only
  split <;> rfl

theorem State.fall_currentTotal :
    (s.fall r g).currentTotal = s.currentTotal - if g = s.generation then 1 else 0 := by
  rw [State.fall_of_not_draining idle, State.fallTotal_eq]
  dsimp only
  rw [State.fallIndex_frame]
  dsimp only
  split <;> rfl

theorem State.fall_previousTotal :
    (s.fall r g).previousTotal = s.previousTotal - if g = s.generation - 1#8 then 1 else 0 := by
  rw [State.fall_of_not_draining idle, State.fallTotal_eq]
  dsimp only
  rw [State.fallIndex_frame]
  dsimp only
  split <;> rfl

theorem State.fall_pendingCauses :
    ((s.regions[r]).drainsIn 1 → (s.fall r g).pendingCauses = s.pendingCauses ||| 0x04#6) ∧
      (¬(s.regions[r]).drainsIn 1 → (s.fall r g).pendingCauses = s.pendingCauses) := by
  have drains : ((s.regions[r]).runState == .quiescing && (s.regions[r]).inFlight - 1 == 0) = true ↔
      (s.regions[r]).drainsIn 1 := by
    rw [Bool.and_eq_true, beq_iff_eq, beq_iff_eq, RegionStatus.drainsIn]
    constructor
    · rintro ⟨quiescing, last⟩
      exact ⟨quiescing, Nat.le_refl 1, by omega⟩
    · rintro ⟨quiescing, -, few⟩
      exact ⟨quiescing, by omega⟩
  rw [State.fall_of_not_draining idle, State.fallTotal_frame]
  unfold State.fallIndex
  dsimp only
  exact ⟨fun now => by rw [if_pos (drains.mpr now)]; rfl, fun not => by rw [if_neg ((not_congr drains).mpr not)]; rfl⟩

theorem State.fall_command : (s.fall r g).command = s.command ∧ (s.fall r g).generation = s.generation := by
  rw [State.fall_of_not_draining idle, State.fallTotal_frame, State.fallIndex_frame]
  exact ⟨rfl, rfl⟩

end

/-- What the end of a list of items leaves of the counts (R12, R13, R23). -/
structure State.Counted (items : List (Fin 64 × BitVec 8)) (s t : State) : Prop where
  command : t.command = s.command
  generation : t.generation = s.generation
  regions : ∀ r : Fin 64, t.regions[r] = RegionStatus.falls (items.countP (fun i => i.1 == r)) s.regions[r]
  currentTotal : t.currentTotal = s.currentTotal - items.countP (fun i => i.2 == s.generation)
  previousTotal : t.previousTotal = s.previousTotal - items.countP (fun i => i.2 == s.generation - 1#8)
  quiesced : (∃ r : Fin 64, (s.regions[r]).drainsIn (items.countP (fun i => i.1 == r))) →
    t.pendingCauses = s.pendingCauses ||| 0x04#6
  quiet : (∀ r : Fin 64, ¬(s.regions[r]).drainsIn (items.countP (fun i => i.1 == r))) →
    t.pendingCauses = s.pendingCauses

theorem State.Counted.nil (s : State) : s.Counted [] s where
  command := rfl
  generation := rfl
  regions _ := rfl
  currentTotal := rfl
  previousTotal := rfl
  quiesced := fun ⟨_, _, least, _⟩ => absurd least (Nat.not_succ_le_zero 0)
  quiet _ := rfl

/-- An item that ends first. -/
theorem State.Counted.cons {s t : State} (idle : s.command.phase ≠ some .drain) {i : Fin 64 × BitVec 8}
    {items : List (Fin 64 × BitVec 8)} (rest : (s.fall i.1 i.2).Counted items t) : s.Counted (i :: items) t := by
  obtain ⟨command, generation⟩ := State.fall_command idle i.1 i.2
  have regions := State.fall_regions idle i.1 i.2
  obtain ⟨raised, notRaised⟩ := State.fall_pendingCauses idle i.1 i.2
  have here : (s.fall i.1 i.2).regions[i.1] = (s.regions[i.1]).fall := by rw [regions, getElem_set_fin, if_pos rfl]
  have there {r : Fin 64} (other : i.1 ≠ r) : (s.fall i.1 i.2).regions[r] = s.regions[r] := by
    rw [regions, getElem_set_fin, if_neg other]
  have count (r : Fin 64) : (i :: items).countP (fun i => i.1 == r) =
      items.countP (fun i => i.1 == r) + if i.1 = r then 1 else 0 := by
    rw [List.countP_cons]
    simp only [beq_iff_eq]
  have drains (r : Fin 64) : (s.regions[r]).drainsIn ((i :: items).countP (fun i => i.1 == r)) ↔
      (i.1 = r ∧ (s.regions[i.1]).drainsIn 1) ∨
        ((s.fall i.1 i.2).regions[r]).drainsIn (items.countP (fun i => i.1 == r)) := by
    rw [count]
    by_cases same : i.1 = r
    · subst same
      rw [if_pos rfl, RegionStatus.drainsIn_succ, here]
      simp only [true_and]
    · rw [if_neg same, there same, Nat.add_zero]
      simp only [same, false_and, false_or]
  refine ⟨rest.command.trans command, rest.generation.trans generation, fun r => ?_, ?_, ?_, ?_, fun none => ?_⟩
  · rw [rest.regions r, count]
    by_cases same : i.1 = r
    · subst same
      rw [if_pos rfl, here]
      rfl
    · rw [if_neg same, there same, Nat.add_zero]
  · rw [rest.currentTotal, State.fall_currentTotal idle, generation, List.countP_cons]
    simp only [beq_iff_eq]
    omega
  · rw [rest.previousTotal, State.fall_previousTotal idle, generation, List.countP_cons]
    simp only [beq_iff_eq]
    omega
  · rintro ⟨r, some⟩
    by_cases later : ∃ x : Fin 64, ((s.fall i.1 i.2).regions[x]).drainsIn (items.countP (fun i => i.1 == x))
    · rw [rest.quiesced later]
      by_cases now : (s.regions[i.1]).drainsIn 1
      · rw [raised now, BitVec.or_assoc, BitVec.or_self]
      · rw [notRaised now]
    · obtain ⟨-, now⟩ := ((drains r).mp some).resolve_right fun drained => later ⟨r, drained⟩
      rw [rest.quiet (not_exists.mp later), raised now]
  · rw [rest.quiet fun r drained => none r ((drains r).mpr (.inr drained)),
      notRaised fun now => none i.1 ((drains i.1).mpr (.inl ⟨rfl, now⟩))]

theorem State.counted_endItems {s : State} (idle : s.command.phase ≠ some .drain) (items : List (Fin 64 × BitVec 8)) :
    s.Counted items (s.endItems items) := by
  induction items generalizing s with
  | nil => exact .nil s
  | cons i items ih =>
    have stillIdle : (s.fall i.1 i.2).command.phase ≠ some .drain := by rw [(State.fall_command idle i.1 i.2).1]; exact idle
    exact .cons idle (ih stillIdle)

/-! ### States that count the same items -/

/-- Two states whose counts, totals and pending causes agree, and what a fall reads of them. -/
structure State.CountsAs (s t : State) : Prop where
  command : s.command = t.command
  generation : s.generation = t.generation
  regions : s.regions = t.regions
  currentTotal : s.currentTotal = t.currentTotal
  previousTotal : s.previousTotal = t.previousTotal
  causes : s.pendingCauses = t.pendingCauses

theorem State.CountsAs.refl (s : State) : s.CountsAs s := ⟨rfl, rfl, rfl, rfl, rfl, rfl⟩

theorem State.CountsAs.trans {s t u : State} (h : s.CountsAs t) (k : t.CountsAs u) : s.CountsAs u :=
  ⟨h.command.trans k.command, h.generation.trans k.generation, h.regions.trans k.regions,
    h.currentTotal.trans k.currentTotal, h.previousTotal.trans k.previousTotal, h.causes.trans k.causes⟩

theorem State.CountsAs.fall {s t : State} (h : s.CountsAs t) (idle : s.command.phase ≠ some .drain) (r : Fin 64)
    (g : BitVec 8) : (s.fall r g).CountsAs (t.fall r g) := by
  have idle' : t.command.phase ≠ some .drain := h.command ▸ idle
  obtain ⟨command, generation⟩ := State.fall_command idle r g
  obtain ⟨command', generation'⟩ := State.fall_command idle' r g
  obtain ⟨raised, notRaised⟩ := State.fall_pendingCauses idle r g
  obtain ⟨raised', notRaised'⟩ := State.fall_pendingCauses idle' r g
  rw [← h.regions] at raised' notRaised'
  refine ⟨by rw [command, command', h.command], by rw [generation, generation', h.generation], ?_, ?_, ?_, ?_⟩
  · rw [State.fall_regions idle, State.fall_regions idle', h.regions]
  · rw [State.fall_currentTotal idle, State.fall_currentTotal idle', h.currentTotal, h.generation]
  · rw [State.fall_previousTotal idle, State.fall_previousTotal idle', h.previousTotal, h.generation]
  · by_cases drains : (s.regions[r]).drainsIn 1
    · rw [raised drains, raised' drains, h.causes]
    · rw [notRaised drains, notRaised' drains, h.causes]

theorem State.CountsAs.endItems {s t : State} (h : s.CountsAs t) (idle : s.command.phase ≠ some .drain)
    (items : List (Fin 64 × BitVec 8)) : (s.endItems items).CountsAs (t.endItems items) := by
  induction items generalizing s t with
  | nil => exact h
  | cons i items ih =>
    have stillIdle : (s.fall i.1 i.2).command.phase ≠ some .drain := by rw [(State.fall_command idle i.1 i.2).1]; exact idle
    exact ih (h.fall idle i.1 i.2) stillIdle

theorem State.Counted.of_countsAs {items : List (Fin 64 × BitVec 8)} {s t u : State} (h : t.CountsAs u)
    (counted : s.Counted items u) : s.Counted items t where
  command := h.command.trans counted.command
  generation := h.generation.trans counted.generation
  regions r := by rw [h.regions]; exact counted.regions r
  currentTotal := h.currentTotal.trans counted.currentTotal
  previousTotal := h.previousTotal.trans counted.previousTotal
  quiesced some := h.causes.trans (counted.quiesced some)
  quiet none := h.causes.trans (counted.quiet none)

/-! ### A QUEUED tag that the flush frees -/

/-- The in-flight item of a tag record. -/
def TagRecord.item (r : TagRecord) : Fin 64 × BitVec 8 := (r.index, r.generation)

/-- A requester table with the outstanding count of `q` lowered by `k`. -/
def lowered (q : Fin 16) (k : Nat) (table : Vector RequesterRecord 16) : Vector RequesterRecord 16 :=
  table.set q { table[q] with outstanding := (table[q]).outstanding - k }

theorem lowered_zero (q : Fin 16) (table : Vector RequesterRecord 16) : lowered q 0 table = table :=
  set_getElem_fin table q

theorem lowered_lowered (q : Fin 16) (j k : Nat) (table : Vector RequesterRecord 16) :
    lowered q k (lowered q j table) = lowered q (j + k) table := by
  unfold lowered
  rw [getElem_set_fin, if_pos rfl, Vector.set_set, Nat.sub_sub]

section
variable {s : State} {g : Fin 48}

/-- A tag in flight that becomes FREE, just before its item ends. -/
def State.beforeEnd (g : Fin 48) (s : State) : State :=
  if (s.tags[g]).owes then (s.putFree g).lowerOutstanding (s.tags[g]).ownerRequester else s.putFree g

theorem State.freeTag_of_queued (queued : (s.tags[g]).state = .queued) :
    s.freeTag g = (s.beforeEnd g).fall (s.tags[g]).index (s.tags[g]).generation := by
  have counted : (s.tags[g]).inFlight = true := by simp [-Fin.getElem_fin, TagRecord.inFlight, queued]
  rw [State.freeTag, if_neg (by rw [queued]; decide), State.endCounts, if_pos counted, State.beforeEnd]

theorem State.beforeEnd_countsAs : (s.beforeEnd g).CountsAs s := by
  unfold State.beforeEnd
  split <;> exact ⟨rfl, rfl, rfl, rfl, rfl, rfl⟩

theorem State.freeTag_countsAs (queued : (s.tags[g]).state = .queued) (idle : s.command.phase ≠ some .drain) :
    (s.freeTag g).CountsAs (s.fall (s.tags[g]).index (s.tags[g]).generation) := by
  rw [State.freeTag_of_queued queued]
  exact State.beforeEnd_countsAs.fall (by rw [State.beforeEnd_countsAs.command]; exact idle) _ _

theorem State.fall_requesters (r : Fin 64) (n : BitVec 8) (s : State) : (s.fall r n).requesters = s.requesters := by
  rw [State.fall_frame]

theorem State.fall_admissionWait (r : Fin 64) (n : BitVec 8) (s : State) :
    (s.fall r n).admissionWait = s.admissionWait := by
  rw [State.fall_frame]

theorem State.freeTag_requesters (queued : (s.tags[g]).state = .queued) :
    (s.freeTag g).requesters =
      lowered (s.tags[g]).ownerRequester (if (s.tags[g]).owner = .requester then 1 else 0) s.requesters := by
  have owes : (s.tags[g]).owes = true ↔ (s.tags[g]).owner = .requester := by
    simp [-Fin.getElem_fin, TagRecord.owes, queued]
  rw [State.freeTag_of_queued queued, State.fall_requesters, State.beforeEnd]
  by_cases owned : (s.tags[g]).owner = .requester
  · rw [if_pos (owes.mpr owned), if_pos owned]
    rfl
  · rw [if_neg ((not_congr owes).mpr owned), if_neg owned, lowered_zero]
    rfl

theorem State.freeTag_admissionWait (queued : (s.tags[g]).state = .queued) :
    (s.freeTag g).admissionWait = wakenedBy true false s.admissionWait := by
  rw [State.freeTag_of_queued queued, State.fall_admissionWait, State.beforeEnd]
  split <;> exact State.noteFreeTag_admissionWait (s := { s.setTag g (s.tags[g]).freed with freeTags := s.freeTags ++ [g] })

end

/-! ### The flush of the tags -/

theorem State.flushTag_of_flushed {s : State} {queue : List IssueEntry} {q : Fin 16} {g : Fin 48}
    (flushed : flushes queue q g = true) (queued : (s.tags[g]).state = .queued) : s.flushTag queue q g = s.freeTag g :=
  if_pos (by rw [flushed, queued]; rfl)

theorem State.flushTag_of_kept {s : State} {queue : List IssueEntry} {q : Fin 16} {g : Fin 48}
    (kept : flushes queue q g = false) : s.flushTag queue q g = s :=
  if_neg (by rw [kept, Bool.false_and]; decide)

/-- What freeing the tags `freed` of requester `q` leaves of the counts, of `q` and of the waiting packet. -/
structure State.Frees (q : Fin 16) (freed : List (Fin 48)) (s t : State) : Prop where
  counts : t.CountsAs (s.endItems (freed.map (fun g => (s.tags[g]).item)))
  requesters : t.requesters = lowered q (freed.countP (fun g => (s.tags[g]).owner == .requester)) s.requesters
  admissionWait : t.admissionWait = wakenedBy (!freed.isEmpty) false s.admissionWait

theorem State.Frees.nil (q : Fin 16) (s : State) : s.Frees q [] s where
  counts := .refl s
  requesters := (lowered_zero q s.requesters).symm
  admissionWait := (wakenedBy_none s.admissionWait).symm

/-- A QUEUED tag of `q` freed before others. -/
theorem State.Frees.cons {q : Fin 16} {freed : List (Fin 48)} {s t : State} (idle : s.command.phase ≠ some .drain)
    {g : Fin 48} (queued : (s.tags[g]).state = .queued) (owner : (s.tags[g]).ownerRequester = q) (fresh : g ∉ freed)
    (rest : (s.freeTag g).Frees q freed t) : s.Frees q (g :: freed) t := by
  have same {x : Fin 48} (mem : x ∈ freed) : (s.freeTag g).tags[x] = s.tags[x] := by
    rw [(State.freeTag_pool (by rw [queued]; decide)).1, getElem_set_fin, if_neg (fun (eq : g = x) => fresh (eq ▸ mem))]
  have items : freed.map (fun x => ((s.freeTag g).tags[x]).item) = freed.map (fun x => (s.tags[x]).item) :=
    List.map_congr_left fun x mem => by rw [same mem]
  have owed : freed.countP (fun x => ((s.freeTag g).tags[x]).owner == .requester) =
      freed.countP (fun x => (s.tags[x]).owner == .requester) :=
    List.countP_congr fun x mem => by rw [same mem]
  have counts := State.freeTag_countsAs queued idle
  have stillIdle : (s.freeTag g).command.phase ≠ some .drain := by
    rw [counts.command, (State.fall_command idle _ _).1]
    exact idle
  refine ⟨?_, ?_, ?_⟩
  · have rests := rest.counts
    rw [items] at rests
    exact rests.trans (counts.endItems stillIdle _)
  · rw [rest.requesters, owed, State.freeTag_requesters queued, owner, lowered_lowered, List.countP_cons, Nat.add_comm]
    simp only [beq_iff_eq]
  · rw [rest.admissionWait, State.freeTag_admissionWait queued, wakenedBy_wakenedBy]
    rfl

theorem State.frees_flushTags {queue : List IssueEntry} {q : Fin 16} {l : List (Fin 48)} (nodup : l.Nodup) {s : State}
    (idle : s.command.phase ≠ some .drain)
    (holds : ∀ g ∈ l, flushes queue q g = true → (s.tags[g]).state = .queued ∧ (s.tags[g]).ownerRequester = q) :
    s.Frees q (l.filter (flushes queue q)) (l.foldl (State.flushTag queue q) s) := by
  induction l generalizing s with
  | nil => exact .nil q s
  | cons g l ih =>
    obtain ⟨fresh, nodup⟩ := List.nodup_cons.mp nodup
    rw [List.foldl_cons]
    cases flushed : flushes queue q g with
    | false =>
      rw [State.flushTag_of_kept flushed, List.filter_cons_of_neg (by rw [flushed]; decide)]
      exact ih nodup idle fun x mem => holds x (List.mem_cons_of_mem g mem)
    | true =>
      obtain ⟨queued, owner⟩ := holds g List.mem_cons_self flushed
      rw [State.flushTag_of_flushed flushed queued, List.filter_cons_of_pos flushed]
      have counts := State.freeTag_countsAs queued idle
      refine .cons idle queued owner (fun mem => fresh ((List.mem_filter.mp mem).1)) (ih nodup ?_ fun x mem gone => ?_)
      · rw [counts.command, (State.fall_command idle _ _).1]
        exact idle
      · rw [(State.freeTag_pool (by rw [queued]; decide)).1, getElem_set_fin, if_neg (fun (eq : g = x) => fresh (eq ▸ mem))]
        exact holds x (List.mem_cons_of_mem g mem) gone

/-! ### The flush of the untagged entries -/

/-- The in-flight item of an issue entry. -/
def IssueEntry.item (e : IssueEntry) : Fin 64 × BitVec 8 := (e.index, e.generation)

theorem foldl_flushUntagged (removed : List IssueEntry) (s : State) :
    removed.foldl State.flushUntagged s = s.endItems ((removed.filter (fun e => e.tag.isNone)).map IssueEntry.item) := by
  induction removed generalizing s with
  | nil => rfl
  | cons e rest ih =>
    rw [List.foldl_cons, ih, State.flushUntagged]
    cases untagged : e.tag.isNone with
    | false => rw [List.filter_cons_of_neg (by rw [untagged]; decide)]; rfl
    | true => rw [List.filter_cons_of_pos (p := fun e : IssueEntry => e.tag.isNone) untagged]; rfl

/-! ### What the flush leaves alone -/

/-- A flush changes the tags, the counts, the requesters, the causes and the wait of the packet, and nothing else. -/
def State.FlushedFrom (s t : State) : Prop :=
  t = { s with
    tags := t.tags, freeTags := t.freeTags, requesters := t.requesters, admissionWait := t.admissionWait
    regions := t.regions, currentTotal := t.currentTotal, previousTotal := t.previousTotal
    pendingCauses := t.pendingCauses }

theorem State.FlushedFrom.refl (s : State) : s.FlushedFrom s := rfl

theorem State.FlushedFrom.trans {s t u : State} (h : s.FlushedFrom t) (k : t.FlushedFrom u) : s.FlushedFrom u := by
  unfold State.FlushedFrom at *
  rw [k, h]

theorem State.flushedFrom_fall {s : State} (idle : s.command.phase ≠ some .drain) (r : Fin 64) (g : BitVec 8) :
    s.FlushedFrom (s.fall r g) := by
  rw [State.fall_of_not_draining idle, State.fallTotal_frame, State.fallIndex_frame]
  rfl

theorem State.flushedFrom_beforeEnd (s : State) (g : Fin 48) : s.FlushedFrom (s.beforeEnd g) := by
  unfold State.beforeEnd
  split <;> rfl

theorem State.FlushedFrom.command {s t : State} (h : s.FlushedFrom t) : t.command = s.command := by rw [h]

theorem State.flushedFrom_flushTag {s : State} (idle : s.command.phase ≠ some .drain) (queue : List IssueEntry)
    (q : Fin 16) (g : Fin 48) : s.FlushedFrom (s.flushTag queue q g) := by
  unfold State.flushTag
  split
  next queued =>
    rw [Bool.and_eq_true, beq_iff_eq] at queued
    rw [State.freeTag_of_queued queued.2]
    have before := s.flushedFrom_beforeEnd g
    exact before.trans (State.flushedFrom_fall (by rw [before.command]; exact idle) _ _)
  · rfl

theorem State.flushedFrom_flushTags {s : State} (idle : s.command.phase ≠ some .drain) (queue : List IssueEntry)
    (q : Fin 16) (l : List (Fin 48)) : s.FlushedFrom (l.foldl (State.flushTag queue q) s) := by
  induction l generalizing s with
  | nil => rfl
  | cons g l ih =>
    have first := State.flushedFrom_flushTag idle queue q g
    exact first.trans (ih (by rw [first.command]; exact idle))

theorem State.flushedFrom_endItems {s : State} (idle : s.command.phase ≠ some .drain) (items : List (Fin 64 × BitVec 8)) :
    s.FlushedFrom (s.endItems items) := by
  induction items generalizing s with
  | nil => rfl
  | cons i items ih =>
    have first := State.flushedFrom_fall idle i.1 i.2
    exact first.trans (ih (by rw [first.command]; exact idle))

/-! ### The entries of a requester and the tags they hold -/

theorem flushes_iff (s : State) (q : Fin 16) (g : Fin 48) : flushes s.issueQueue q g = true ↔ g ∈ s.flushedTags q := by
  simp only [flushes, State.flushedTags, List.any_eq_true, List.mem_filterMap, List.mem_filter, Bool.and_eq_true,
    beq_iff_eq, and_assoc]

theorem filter_flushes_eq (s : State) (q : Fin 16) :
    (List.finRange 48).filter (flushes s.issueQueue q) =
      (List.finRange 48).filter (fun g => decide (g ∈ s.flushedTags q)) :=
  List.filter_congr fun g _ => by rw [Bool.eq_iff_iff, flushes_iff, decide_eq_true_iff]

section
variable {s : State} (law : s.tagUseLaw) (q : Fin 16)
include law

theorem State.flushedTags_nodup : (s.flushedTags q).Nodup := by
  obtain ⟨-, nodup, -, -⟩ := law
  exact nodup.sublist (List.filter_sublist.filterMap IssueEntry.tag)

/-- A tag that a queued entry of `q` holds is QUEUED for that entry. -/
theorem State.flushed_holds {g : Fin 48} (flushed : g ∈ s.flushedTags q) :
    (s.tags[g]).state = .queued ∧ (s.tags[g]).ownerRequester = q := by
  obtain ⟨-, -, queued, held⟩ := law
  obtain ⟨e, mem, tag⟩ := List.mem_filterMap.mp flushed
  obtain ⟨inQueue, owner⟩ := List.mem_filter.mp mem
  have inTags : g ∈ s.queuedTags := List.mem_filterMap.mpr ⟨e, inQueue, tag⟩
  exact ⟨((queued g).mp inTags).1, (held e inQueue g tag).1.trans (beq_iff_eq.mp owner)⟩

theorem State.filter_flushes_perm :
    ((List.finRange 48).filter (flushes s.issueQueue q)).Perm (s.flushedTags q) := by
  refine (List.perm_ext_iff_of_nodup ((List.nodup_finRange 48).filter _) (State.flushedTags_nodup law q)).mpr fun g => ?_
  rw [List.mem_filter, flushes_iff, and_iff_right (List.mem_finRange g)]

/-- The items of the tags that the entries of `q` hold are those of the entries. -/
theorem State.map_item_flushedTags :
    (s.flushedTags q).map (fun g => (s.tags[g]).item) =
      ((s.issueQueue.filter (fun e => e.requester == q)).filter (fun e => !e.tag.isNone)).map IssueEntry.item := by
  obtain ⟨-, -, -, held⟩ := law
  have among : ∀ e ∈ s.issueQueue.filter (fun e => e.requester == q), e ∈ s.issueQueue :=
    fun e mem => (List.mem_filter.mp mem).1
  unfold State.flushedTags
  generalize s.issueQueue.filter (fun e => e.requester == q) = entries at among
  induction entries with
  | nil => rfl
  | cons e rest ih =>
    have rests := ih fun x mem => among x (List.mem_cons_of_mem e mem)
    cases tag : e.tag with
    | none => simp only [List.filterMap_cons, tag, List.filter_cons, Option.isNone_none, Bool.not_true,
        Bool.false_eq_true, if_false, rests]
    | some g =>
      obtain ⟨-, index, generation⟩ := held e (among e List.mem_cons_self) g tag
      have item : (s.tags[g]).item = e.item := by rw [TagRecord.item, IssueEntry.item, index, generation]
      simp only [List.filterMap_cons, tag, List.filter_cons, Option.isNone_some, Bool.not_false, if_true, List.map_cons,
        rests, item]

/-- The items that the flush ends are those of the entries it removes. -/
theorem State.flushedItems_perm :
    (((List.finRange 48).filter (flushes s.issueQueue q)).map (fun g => (s.tags[g]).item) ++
      ((s.issueQueue.filter (fun e => e.requester == q)).filter (fun e => e.tag.isNone)).map IssueEntry.item).Perm
      ((s.issueQueue.filter (fun e => e.requester == q)).map IssueEntry.item) := by
  have tagged := (State.filter_flushes_perm law q).map (fun g => (s.tags[g]).item)
  rw [State.map_item_flushedTags law q] at tagged
  refine (tagged.append_right _).trans ?_
  rw [← List.map_append]
  refine List.Perm.map _ (List.perm_append_comm.trans ?_)
  exact List.filter_append_perm (fun e : IssueEntry => e.tag.isNone) _

end

/-! ### The state that the flush leaves, before its fault -/

theorem State.Counted.perm {items items' : List (Fin 64 × BitVec 8)} (perm : items.Perm items') {s t : State}
    (counted : s.Counted items t) : s.Counted items' t where
  command := counted.command
  generation := counted.generation
  regions r := by rw [← perm.countP_eq]; exact counted.regions r
  currentTotal := by rw [← perm.countP_eq]; exact counted.currentTotal
  previousTotal := by rw [← perm.countP_eq]; exact counted.previousTotal
  quiesced := by simp only [← perm.countP_eq]; exact counted.quiesced
  quiet := by simp only [← perm.countP_eq]; exact counted.quiet

theorem State.endItems_append (l m : List (Fin 64 × BitVec 8)) (s : State) :
    s.endItems (l ++ m) = (s.endItems l).endItems m := List.foldl_append

theorem State.endItems_kept (items : List (Fin 64 × BitVec 8)) (s : State) :
    (s.endItems items).requesters = s.requesters ∧ (s.endItems items).admissionWait = s.admissionWait := by
  induction items generalizing s with
  | nil => exact ⟨rfl, rfl⟩
  | cons i items ih =>
    obtain ⟨requesters, wait⟩ := ih (s.fall i.1 i.2)
    exact ⟨requesters.trans (State.fall_requesters _ _ s), wait.trans (State.fall_admissionWait _ _ s)⟩

/-- The entries of requester `q` in the issue queue (R47). -/
def State.entriesOf (s : State) (q : Fin 16) : List IssueEntry := s.issueQueue.filter (fun e => e.requester == q)

/-- The entries of requester `q` have left the issue queue (R76). -/
def State.withoutEntries (s : State) (q : Fin 16) : State :=
  { s with issueQueue := s.issueQueue.filter (fun e => e.requester != q) }

/-- The tags and the items of the entries of `q` have ended, and the entries have left the queue. -/
def State.flushItems (q : Fin 16) (s : State) : State :=
  (s.entriesOf q).foldl State.flushUntagged ((List.finRange 48).foldl (State.flushTag s.issueQueue q)
    (s.withoutEntries q))

/-- The flush of requester `q` without its fault (R47). -/
def State.flushEntries (q : Fin 16) (s : State) : State :=
  if (s.entriesOf q).isEmpty then s.flushItems q else (s.flushItems q).noteIssueSlot

theorem State.fenceFlush_eq (q : Fin 16) (s : State) :
    s.fenceFlush q = (s.flushEntries q).takeFault
      { kind := .fenceFlush, port := some .u, requester := some q,
        detail := some (.entries (s.entriesOf q).length) } := rfl

theorem State.flushEntries_keeps {α : Type} (field : State → α) (kept : ∀ u : State, field u.noteIssueSlot = field u)
    (q : Fin 16) (s : State) : field (s.flushEntries q) = field (s.flushItems q) := by
  unfold State.flushEntries
  split
  · rfl
  · exact kept _

section
variable {s : State} (idle : s.command.phase ≠ some .drain) (law : s.tagUseLaw) (q : Fin 16)

theorem State.flushItems_tags (g : Fin 48) :
    (s.flushItems q).tags[g] = (s.tags[g]).flushed s.issueQueue q g :=
  (State.flush_pool s.issueQueue (s.entriesOf q) q _).1 g

theorem State.flushItems_freeTags :
    (s.flushItems q).freeTags = s.freeTags ++
      (List.finRange 48).filter (fun t => flushes s.issueQueue q t && (s.tags[t]).state == .queued) :=
  (State.flush_pool s.issueQueue (s.entriesOf q) q _).2

include law

theorem State.flushEntries_tags (g : Fin 48) :
    (s.flushEntries q).tags[g] = if g ∈ s.flushedTags q then (s.tags[g]).released else s.tags[g] := by
  rw [State.flushEntries_keeps State.tags (fun _ => rfl), State.flushItems_tags, TagRecord.flushed]
  by_cases flushed : g ∈ s.flushedTags q
  · rw [if_pos flushed, (flushes_iff s q g).mpr flushed, (State.flushed_holds law q flushed).1]
    rfl
  · rw [if_neg flushed, Bool.eq_false_iff.mpr ((not_congr (flushes_iff s q g)).mpr flushed)]
    rfl

theorem State.flushEntries_freeTags :
    (s.flushEntries q).freeTags =
      s.freeTags ++ (List.finRange 48).filter (fun g => decide (g ∈ s.flushedTags q)) := by
  rw [State.flushEntries_keeps State.freeTags (fun _ => rfl), State.flushItems_freeTags]
  congr 1
  refine List.filter_congr fun g _ => ?_
  rw [Bool.eq_iff_iff, Bool.and_eq_true, beq_iff_eq, flushes_iff, decide_eq_true_iff]
  exact and_iff_left_of_imp fun flushed => (State.flushed_holds law q flushed).1

include idle

theorem State.frees_flushed :
    State.Frees q ((List.finRange 48).filter (flushes s.issueQueue q))
      (s.withoutEntries q)
      ((List.finRange 48).foldl (State.flushTag s.issueQueue q)
        (s.withoutEntries q)) :=
  State.frees_flushTags (s := (s.withoutEntries q))
    (List.nodup_finRange 48) idle fun g _ flushed => State.flushed_holds law q ((flushes_iff s q g).mp flushed)

theorem State.flushItems_counted : s.Counted ((s.entriesOf q).map IssueEntry.item) (s.flushItems q) := by
  have frees := State.frees_flushed idle law q
  rw [State.flushItems, foldl_flushUntagged]
  have both := frees.counts.endItems (by
    rw [frees.counts.command, (State.counted_endItems (s := s.withoutEntries q) idle _).command]
    exact idle) (((s.entriesOf q).filter (fun e => e.tag.isNone)).map IssueEntry.item)
  rw [← State.endItems_append] at both
  have counted := (State.counted_endItems (s := (s.withoutEntries q))
    idle _).of_countsAs both
  have plain : s.Counted _ _ := ⟨counted.command, counted.generation, counted.regions, counted.currentTotal,
    counted.previousTotal, counted.quiesced, counted.quiet⟩
  exact plain.perm (State.flushedItems_perm law q)

theorem State.flushEntries_counted : s.Counted ((s.entriesOf q).map IssueEntry.item) (s.flushEntries q) := by
  refine (State.flushItems_counted idle law q).of_countsAs ?_
  unfold State.flushEntries
  split <;> exact ⟨rfl, rfl, rfl, rfl, rfl, rfl⟩

theorem State.flushEntries_requesters :
    (s.flushEntries q).requesters =
      lowered q ((s.flushedTags q).countP (fun g => (s.tags[g]).owner == .requester)) s.requesters := by
  rw [State.flushEntries_keeps State.requesters (fun _ => rfl), State.flushItems, foldl_flushUntagged,
    (State.endItems_kept _ _).1, (State.frees_flushed idle law q).requesters,
    (State.filter_flushes_perm law q).countP_eq]
  rfl

theorem State.flushEntries_admissionWait :
    (s.flushEntries q).admissionWait =
      wakenedBy (!(s.flushedTags q).isEmpty) (!(s.entriesOf q).isEmpty) s.admissionWait := by
  have woken : (s.flushItems q).admissionWait = wakenedBy (!(s.flushedTags q).isEmpty) false s.admissionWait := by
    rw [State.flushItems, foldl_flushUntagged, (State.endItems_kept _ _).2, (State.frees_flushed idle law q).admissionWait,
      (State.filter_flushes_perm law q).isEmpty_eq]
    rfl
  unfold State.flushEntries
  cases empty : (s.entriesOf q).isEmpty with
  | true => exact woken
  | false =>
    refine (State.noteIssueSlot_admissionWait _).trans ?_
    rw [woken, wakenedBy_wakenedBy, Bool.or_false]
    rfl

omit law

theorem State.flushEntries_frame :
    State.FlushedFrom (s.withoutEntries q) (s.flushEntries q) := by
  have first := State.flushedFrom_flushTags (s := (s.withoutEntries q))
    idle s.issueQueue q (List.finRange 48)
  have items : State.FlushedFrom (s.withoutEntries q)
      (s.flushItems q) := by
    rw [State.flushItems, foldl_flushUntagged]
    exact first.trans (State.flushedFrom_endItems (by rw [first.command]; exact idle) _)
  unfold State.flushEntries
  split
  · exact items
  · exact items.trans rfl

end

section
variable {s : State} (idle : s.command.phase ≠ some .drain) (law : s.tagUseLaw) (q : Fin 16)

/-- How many entries of `q` stand in the issue queue for region index `r`. -/
def State.entriesAt (s : State) (q : Fin 16) (r : Fin 64) : Nat := (s.entriesOf q).countP (fun e => e.index == r)

include idle law

theorem State.flushEntries_quiesced :
    ∃ b : BitVec 6, (s.flushEntries q).pendingCauses = s.pendingCauses ||| b ∧
      (b = 0x04#6 ∧ (∃ r : Fin 64, (s.regions[r]).drainsIn (s.entriesAt q r)) ∨
        b = 0x00#6 ∧ ∀ r : Fin 64, ¬(s.regions[r]).drainsIn (s.entriesAt q r)) := by
  obtain ⟨-, -, -, -, -, quiesced, quiet⟩ := State.flushEntries_counted idle law q
  simp only [List.countP_map] at quiesced quiet
  by_cases drains : ∃ r : Fin 64, (s.regions[r]).drainsIn (s.entriesAt q r)
  · exact ⟨0x04#6, quiesced drains, .inl ⟨rfl, drains⟩⟩
  · exact ⟨0x00#6, (quiet (not_exists.mp drains)).trans BitVec.or_zero.symm, .inr ⟨rfl, not_exists.mp drains⟩⟩

theorem State.flushEntries_region (r : Fin 64) :
    ((s.regions[r]).drainsIn (s.entriesAt q r) → (s.flushEntries q).regions[r] =
        { runState := .quiesced, inFlight := (s.regions[r]).inFlight - s.entriesAt q r }) ∧
      (¬(s.regions[r]).drainsIn (s.entriesAt q r) → (s.flushEntries q).regions[r] =
        { s.regions[r] with inFlight := (s.regions[r]).inFlight - s.entriesAt q r }) := by
  have region := (State.flushEntries_counted idle law q).regions r
  rw [List.countP_map] at region
  obtain ⟨whenDrains, whenNot⟩ := RegionStatus.falls_eq (s.entriesAt q r) s.regions[r]
  exact ⟨fun drains => region.trans (whenDrains drains), fun not => region.trans (whenNot not)⟩

theorem State.flushEntries_totals :
    (s.flushEntries q).currentTotal =
        s.currentTotal - (s.entriesOf q).countP (fun e => e.generation == s.generation) ∧
      (s.flushEntries q).previousTotal =
        s.previousTotal - (s.entriesOf q).countP (fun e => e.generation == s.generation - 1#8) := by
  obtain ⟨-, -, -, current, previous, -, -⟩ := State.flushEntries_counted idle law q
  rw [List.countP_map] at current previous
  exact ⟨current, previous⟩

omit law

theorem State.flushEntries_logsAs {b : BitVec 6} (causes : (s.flushEntries q).pendingCauses = s.pendingCauses ||| b) :
    (s.flushEntries q).LogsAs s b := by
  have frame := State.flushEntries_frame idle q
  exact ⟨by rw [frame]; rfl, by rw [frame]; rfl, by rw [frame]; rfl, causes⟩

end

/-- What a fault after a flush leaves, field by field. -/
theorem State.FlushedFrom.takeFault {s t : State} (h : s.FlushedFrom t) (f : FaultReport) :
    t.takeFault f = { s with
      tags := t.tags, freeTags := t.freeTags, requesters := t.requesters, admissionWait := t.admissionWait
      regions := t.regions, currentTotal := t.currentTotal, previousTotal := t.previousTotal
      faultLog := (t.takeFault f).faultLog, lostCount := (t.takeFault f).lostCount
      pendingCauses := (t.takeFault f).pendingCauses } := by
  generalize told : t.takeFault f = u
  have frame := State.takeFault_frame f t
  rw [told] at frame
  unfold State.FlushedFrom at h
  rw [frame, h]

/-! ### FENCE -/

section
variable {s : State} {issuer q : Fin 16}

theorem fenceEffect_of_issuer (same : q = issuer) : fenceEffect issuer q s = (s, .denied) := if_pos same

theorem fenceEffect_of_fenced (other : q ≠ issuer) (fenced : (s.requesters[q]).state = .fenced) :
    fenceEffect issuer q s = (s, .state) := by
  rw [fenceEffect, if_neg other, if_pos (beq_iff_eq.mpr fenced)]

theorem fenceEffect_of_opened (other : q ≠ issuer) (opened : (s.requesters[q]).state = .opened) :
    fenceEffect issuer q s =
      ((s.setRequester q { s.requesters[q] with state := .fenced }).fenceFlush q, .done) := by
  rw [fenceEffect, if_neg other, if_neg (by rw [opened]; decide)]

end

/-- Settles O52: DENIED, STATE, or the flush of the requester's entries. -/
theorem fenceFlushesARequester : Obligations.FenceFlushesARequester := by
  intro s a operand q managed idle index
  have taken {t : State} {result : Result} (done : fenceEffect a.requester q s = (t, result)) (same : t.uPort = s.uPort) :
      exec (.fence a operand) s = .next (t.taken a 0x20#8 operand result) :=
    congrArg Host.Outcome.next (State.handed_takeCommand managed idle (commandCode .fence) operand
      ((withRequester_of_eq index _ s).trans done) same)
  refine ⟨fun self => taken (fenceEffect_of_issuer self) rfl,
    fun other fenced => taken (fenceEffect_of_fenced other fenced) rfl, fun other opened phase law => ?_⟩
  intro gone endedAt drains noted
  let x := s.setRequester q { s.requesters[q] with state := .fenced }
  let fault : FaultReport := { kind := .fenceFlush, port := some .u, requester := some q,
                               detail := some (.entries gone.length) }
  have idleX : x.command.phase ≠ some .drain := by simp [x, phase]
  have ran := taken (fenceEffect_of_opened other opened)
  obtain ⟨quiesced, causes, which⟩ := State.flushEntries_quiesced idleX law q
  obtain ⟨logX, lostX, timeX, pendingX⟩ := State.flushEntries_logsAs idleX q causes
  have logs : (x.flushEntries q).LogsAs s quiesced := ⟨logX, lostX, timeX, pendingX⟩
  obtain ⟨log, lost, -, pending⟩ := logs.takeFault fault
  obtain ⟨current, previous⟩ := State.flushEntries_totals idleX law q
  have frame := (State.flushEntries_frame idleX q).takeFault fault
  have owner (u : Fin 16) : (x.flushEntries q).requesters[u] =
      if u = q then { s.requesters[q] with
        state := .fenced
        outstanding := (s.requesters[q]).outstanding -
          (s.flushedTags q).countP (fun g => (s.tags[g]).owner == .requester) }
      else s.requesters[u] := by
    have table : (x.flushEntries q).requesters = lowered q ((s.flushedTags q).countP
        (fun g => (s.tags[g]).owner == .requester)) x.requesters := State.flushEntries_requesters (s := x) idleX law q
    have fencedAt : x.requesters = s.requesters.set q { s.requesters[q] with state := .fenced } := rfl
    rw [table, lowered, getElem_set_fin, fencedAt, getElem_set_fin, getElem_set_fin, if_pos rfl]
    by_cases same : q = u
    · rw [if_pos same, if_pos same.symm]
    · rw [if_neg same, if_neg same, if_neg (Ne.symm same)]
  refine ⟨(x.flushEntries q).takeFault fault, quiesced, ran ?_, ?_, which, fun g => ?_, fun r => ?_, fun u => ?_⟩
  · have port : ((x.flushEntries q).takeFault fault).uPort = s.uPort := by rw [frame]; rfl
    exact port
  · have wait := State.flushEntries_admissionWait (s := x) idleX law q
    have freeTags := State.flushEntries_freeTags (s := x) law q
    have tags : ((x.flushEntries q).takeFault fault).tags = (x.flushEntries q).tags := by rw [frame]
    have regions : ((x.flushEntries q).takeFault fault).regions = (x.flushEntries q).regions := by rw [frame]
    have requesters : ((x.flushEntries q).takeFault fault).requesters = (x.flushEntries q).requesters := by rw [frame]
    refine frame.trans ?_
    rw [tags, regions, requesters, log, lost, pending, current, previous, freeTags, wait]
    rfl
  · rw [frame]
    exact State.flushEntries_tags (s := x) law q g
  · rw [frame]
    exact State.flushEntries_region (s := x) idleX law q r
  · rw [frame]
    exact owner u

end Sys2Proof.Machine

/-! ### The aperture map: every word has one offset, and an offset without a word is unused (Table 12-6) -/

namespace Sys2Proof.Machine

/-- Where a port's status window stands (Table 12-6). -/
def portBase (p : Port) : Nat := if p = .u then 0x4000 else 0x4100

/-- The offset at which a word of the aperture is read; the unused word stands for every other offset. -/
def ApertureWord.offset : ApertureWord → Nat
  | .command => 0x0000
  | .commandStatus w => 0x0004 + 4 * w.val
  | .gateMode => 0x0020
  | .replyTimeout => 0x0030
  | .noticeConfiguration => 0x0040
  | .noticeState => 0x0044
  | .logCount => 0x0080
  | .lostCount => 0x0084
  | .logHead w => 0x0088 + 4 * w.val
  | .requester q w => 0x0100 + 0x20 * q.val + 4 * w.val
  | .generation => 0x0400
  | .currentTotal => 0x0404
  | .previousTotal => 0x0408
  | .regionStatus r => 0x0500 + 4 * r.val
  | .digest r w => 0x0800 + 0x10 * r.val + 4 * w.val
  | .staging r w => 0x1000 + 0x10 * r.val + 4 * w.val
  | .active r w => 0x1800 + 0x10 * r.val + 4 * w.val
  | .freeTagCount => 0x2000
  | .tag t w => 0x2100 + 0x10 * t.val + 4 * w.val
  | .channelConfiguration c w => 0x3000 + 0x40 * c.val + 4 * w.val
  | .channelStatus c w => 0x3100 + 0x80 * c.val + 4 * w.val
  | .channelDescriptor c w => 0x3140 + 0x80 * c.val + 4 * w.val
  | .portStatus p w => portBase p + 4 * w.val
  | .unused => 0x4200

/-- A word of a record is found at its distance from the window's start. -/
theorem recordWord_eq_make {α : Type} {n words stride distance : Nat} {make : Fin n → Fin words → α} {other : α}
    (i : Fin n) (w : Fin words) (fits : 4 * w.val < stride) (at_word : distance = stride * i.val + 4 * w.val) :
    recordWord n words stride distance make other = make i w := by
  have record : distance / stride = i.val := by
    rw [at_word, Nat.mul_add_div (Nat.lt_of_le_of_lt (Nat.zero_le _) fits), Nat.div_eq_of_lt fits, Nat.add_zero]
  have word : distance % stride / 4 = w.val := by
    rw [at_word, Nat.mul_add_mod, Nat.mod_eq_of_lt fits, Nat.mul_div_cancel_left _ (by decide)]
  unfold recordWord
  rw [dif_pos ⟨record ▸ i.isLt, word ▸ w.isLt⟩]
  congr 1 <;> exact Fin.ext ‹_›

/-- Beside the words of its records a window holds nothing. -/
theorem recordWord_cases {α : Type} {n words stride distance : Nat} (make : Fin n → Fin words → α) (other : α)
    (aligned : distance % 4 = 0) (records : stride % 4 = 0) :
    recordWord n words stride distance make other = other ∨
      ∃ i w, recordWord n words stride distance make other = make i w ∧ distance = stride * i.val + 4 * w.val := by
  unfold recordWord
  split
  next there =>
    refine .inr ⟨_, _, rfl, ?_⟩
    have whole := Nat.div_add_mod distance stride
    obtain ⟨quarter, rfl⟩ := Nat.dvd_of_mod_eq_zero records
    have split := Nat.div_add_mod' distance (4 * quarter)
    have within : distance % (4 * quarter) % 4 = 0 := by
      rw [Nat.mod_mul_right_mod]
      exact aligned
    dsimp only
    omega
  next => exact .inl rfl

theorem apertureWord_offset (word : ApertureWord) : apertureWord word.offset = word := by
  cases word with
  | command | gateMode | replyTimeout | noticeConfiguration | noticeState | logCount | lostCount | generation
  | currentTotal | previousTotal | freeTagCount | unused => rfl
  | commandStatus w | logHead w => decide +revert
  | requester i w | digest i w | staging i w | active i w | tag i w | channelConfiguration i w =>
    dsimp only [ApertureWord.offset]
    unfold apertureWord
    repeat rw [if_neg (by omega)]
    rw [if_pos (by omega)]
    exact recordWord_eq_make i w (by omega) (by omega)
  | regionStatus r =>
    dsimp only [ApertureWord.offset]
    unfold apertureWord
    repeat rw [if_neg (by omega)]
    rw [if_pos (by omega)]
    exact recordWord_eq_make r (0 : Fin 1) (by decide) (by omega)
  | channelStatus c w =>
    dsimp only [ApertureWord.offset]
    unfold apertureWord
    repeat rw [if_neg (by omega)]
    rw [if_pos (by omega), recordWord_eq_make c ⟨w.val, by omega⟩ (by dsimp only; omega) (by dsimp only; omega)]
    exact dif_pos w.isLt
  | channelDescriptor c w =>
    dsimp only [ApertureWord.offset]
    unfold apertureWord
    repeat rw [if_neg (by omega)]
    rw [if_pos (by omega), recordWord_eq_make c ⟨16 + w.val, by omega⟩ (by dsimp only; omega) (by dsimp only; omega)]
    rw [dif_neg (by dsimp only; omega), dif_pos (by dsimp only; omega)]
    exact congrArg _ (Fin.ext (Nat.add_sub_cancel_left _ _))
  | portStatus p w =>
    cases p
    all_goals
      simp only [ApertureWord.offset, portBase, reduceIte, reduceCtorEq]
      unfold apertureWord
      repeat rw [if_neg (by omega)]
      rw [if_pos (by omega)]
      exact recordWord_eq_make (0 : Fin 1) w (by omega) (by simp)

/-- A word that is read at an offset: its own offset is that, unless it is unused. -/
def ApertureWord.standsAt (offset : Nat) (word : ApertureWord) : Prop := word = .unused ∨ word.offset = offset

theorem ApertureWord.standsAt_recordWord {n words stride base offset : Nat} {make : Fin n → Fin words → ApertureWord}
    (aligned : offset % 4 = 0) (records : stride % 4 = 0) (above : ¬offset < base) (start : base % 4 = 0)
    (made : ∀ i w, (make i w).standsAt (base + stride * i.val + 4 * w.val)) :
    (recordWord n words stride (offset - base) make .unused).standsAt offset := by
  obtain unused | ⟨i, w, found, distance⟩ :=
    recordWord_cases make .unused (show (offset - base) % 4 = 0 by omega) records
  · exact .inl unused
  · rw [found, show offset = base + stride * i.val + 4 * w.val by omega]
    exact made i w

/-- The words below the requester records stand one by one. -/
theorem standsAt_apertureWord_of_low : ∀ offset : Fin 0x100, (apertureWord offset.val).standsAt offset.val := by
  unfold ApertureWord.standsAt
  decide +kernel

/-- A word of the map stands where it is read: the windows in the order of the map. -/
theorem standsAt_apertureWord {offset : Nat} (aligned : offset % 4 = 0) : (apertureWord offset).standsAt offset := by
  by_cases low : offset < 0x100
  · exact standsAt_apertureWord_of_low ⟨offset, low⟩
  unfold apertureWord
  rw [if_neg low]
  refine iteInduction (fun _ => ?_) fun _ => ?_
  · exact ApertureWord.standsAt_recordWord aligned rfl low rfl fun _ _ => .inr rfl
  refine iteInduction (fun there => .inr there.symm) fun _ => ?_
  refine iteInduction (fun there => .inr there.symm) fun _ => ?_
  refine iteInduction (fun there => .inr there.symm) fun _ => ?_
  refine iteInduction (fun _ => .inl rfl) fun above => ?_
  refine iteInduction (fun _ => ?_) fun above => ?_
  · exact ApertureWord.standsAt_recordWord aligned rfl above rfl fun _ w => .inr (by simp [ApertureWord.offset])
  refine iteInduction (fun _ => ?_) fun above => ?_
  · exact ApertureWord.standsAt_recordWord aligned rfl above rfl fun _ _ => .inr rfl
  refine iteInduction (fun _ => ?_) fun above => ?_
  · exact ApertureWord.standsAt_recordWord aligned rfl above rfl fun _ _ => .inr rfl
  refine iteInduction (fun _ => ?_) fun _ => ?_
  · exact ApertureWord.standsAt_recordWord aligned rfl above rfl fun _ _ => .inr rfl
  refine iteInduction (fun there => .inr there.symm) fun _ => ?_
  refine iteInduction (fun _ => .inl rfl) fun above => ?_
  refine iteInduction (fun _ => ?_) fun above => ?_
  · exact ApertureWord.standsAt_recordWord aligned rfl above rfl fun _ _ => .inr rfl
  refine iteInduction (fun _ => ?_) fun above => ?_
  · exact ApertureWord.standsAt_recordWord aligned rfl above rfl fun _ _ => .inr rfl
  refine iteInduction (fun _ => ?_) fun above => ?_
  · refine ApertureWord.standsAt_recordWord aligned rfl above rfl fun c w => ?_
    by_cases status : w.val < 10
    · rw [dif_pos status]
      exact .inr rfl
    rw [dif_neg status]
    by_cases descriptor : 16 ≤ w.val
    · rw [dif_pos descriptor]
      refine .inr ?_
      dsimp only [ApertureWord.offset]
      omega
    · rw [dif_neg descriptor]
      exact .inl rfl
  refine iteInduction (fun _ => ?_) fun above => ?_
  · exact ApertureWord.standsAt_recordWord aligned rfl above rfl fun i w => .inr (by simp [ApertureWord.offset, portBase])
  refine iteInduction (fun _ => ?_) fun _ => .inl rfl
  exact ApertureWord.standsAt_recordWord aligned rfl above rfl fun i w => .inr (by simp [ApertureWord.offset, portBase])

/-- Word `w` of record `i` of a row stands in the rows. -/
theorem inRows_of_mem {rows : List (Nat × Nat × Nat × Nat)} {base stride n words : Nat}
    (row : (base, stride, n, words) ∈ rows) (i : Fin n) (w : Fin words) :
    inRows rows (base + stride * i.val + 4 * w.val) :=
  ⟨_, row, i.val, w.val, i.isLt, w.isLt, rfl⟩

/-- A word of a row of one record stands in the rows. -/
theorem inRows_of_mem_single {rows : List (Nat × Nat × Nat × Nat)} {base words : Nat}
    (row : (base, 0, 1, words) ∈ rows) (w : Fin words) : inRows rows (base + 4 * w.val) :=
  ⟨_, row, 0, w.val, Nat.zero_lt_one, w.isLt, rfl⟩

theorem inRows_apertureRows_of_used (word : ApertureWord) (used : word ≠ .unused) : inRows apertureRows word.offset := by
  cases word with
  | command => exact inRows_of_mem_single (base := 0x0000) (words := 1) (by decide) 0
  | commandStatus w => exact inRows_of_mem_single (base := 0x0004) (by decide) w
  | gateMode => exact inRows_of_mem_single (base := 0x0020) (words := 1) (by decide) 0
  | replyTimeout => exact inRows_of_mem_single (base := 0x0030) (words := 1) (by decide) 0
  | noticeConfiguration => exact inRows_of_mem_single (base := 0x0040) (words := 1) (by decide) 0
  | noticeState => exact inRows_of_mem_single (base := 0x0044) (words := 1) (by decide) 0
  | logCount => exact inRows_of_mem_single (base := 0x0080) (words := 2) (by decide) 0
  | lostCount => exact inRows_of_mem_single (base := 0x0080) (words := 2) (by decide) 1
  | logHead w => exact inRows_of_mem_single (base := 0x0088) (by decide) w
  | requester q w => exact inRows_of_mem (by decide) q w
  | generation => exact inRows_of_mem_single (base := 0x0400) (words := 3) (by decide) 0
  | currentTotal => exact inRows_of_mem_single (base := 0x0400) (words := 3) (by decide) 1
  | previousTotal => exact inRows_of_mem_single (base := 0x0400) (words := 3) (by decide) 2
  | regionStatus r => exact inRows_of_mem (base := 0x0500) (words := 1) (by decide) r 0
  | digest r w => exact inRows_of_mem (by decide) r w
  | staging r w => exact inRows_of_mem (by decide) r w
  | active r w => exact inRows_of_mem (by decide) r w
  | freeTagCount => exact inRows_of_mem_single (base := 0x2000) (words := 1) (by decide) 0
  | tag t w => exact inRows_of_mem (by decide) t w
  | channelConfiguration c w => exact inRows_of_mem (by decide) c w
  | channelStatus c w => exact inRows_of_mem (by decide) c w
  | channelDescriptor c w => exact inRows_of_mem (by decide) c w
  | portStatus p w =>
    cases p with
    | u => exact inRows_of_mem_single (base := 0x4000) (by decide) w
    | d => exact inRows_of_mem_single (base := 0x4100) (by decide) w
  | unused => exact absurd rfl used

theorem apertureWord_eq_unused {offset : Nat} (aligned : offset % 4 = 0) (outside : ¬inRows apertureRows offset) :
    apertureWord offset = .unused := by
  obtain unused | stands := standsAt_apertureWord aligned
  · exact unused
  · refine Classical.byContradiction fun used => ?_
    exact outside (stands ▸ inRows_apertureRows_of_used _ used)

theorem inRows_writableRows_of_writable (word : ApertureWord) (writable : apertureWritable word = true) :
    inRows writableRows word.offset := by
  cases word with
  | command => exact inRows_of_mem_single (base := 0x0000) (words := 1) (by decide) 0
  | replyTimeout => exact inRows_of_mem_single (base := 0x0030) (words := 1) (by decide) 0
  | noticeConfiguration => exact inRows_of_mem_single (base := 0x0040) (words := 1) (by decide) 0
  | requester q w =>
    have only : w.val = 0 := of_decide_eq_true writable
    exact ⟨(0x0100, 0x20, 16, 1), by decide, q.val, w.val, q.isLt, only ▸ Nat.zero_lt_one, rfl⟩
  | staging r w => exact inRows_of_mem (by decide) r w
  | channelConfiguration c w => exact inRows_of_mem (by decide) c w
  | commandStatus | gateMode | noticeState | logCount | lostCount | logHead | generation | currentTotal | previousTotal
  | regionStatus | digest | active | freeTagCount | tag | channelStatus | channelDescriptor | portStatus | unused =>
    exact Bool.noConfusion writable

/-- What stands in a writable row is a writable word. -/
theorem exists_writable_of_inRows {offset : Nat} (row : inRows writableRows offset) :
    ∃ word, apertureWritable word = true ∧ word.offset = offset := by
  obtain ⟨row, mem, i, w, record, inside, rfl⟩ := row
  simp only [writableRows, List.mem_cons, List.not_mem_nil, or_false] at mem
  obtain rfl | rfl | rfl | rfl | rfl | rfl := mem <;> dsimp only at record inside ⊢
  · exact ⟨.command, rfl, by dsimp only [ApertureWord.offset]; omega⟩
  · exact ⟨.replyTimeout, rfl, by dsimp only [ApertureWord.offset]; omega⟩
  · exact ⟨.noticeConfiguration, rfl, by dsimp only [ApertureWord.offset]; omega⟩
  · exact ⟨.requester ⟨i, record⟩ 0, rfl, by simp only [ApertureWord.offset, Fin.val_zero]; omega⟩
  · exact ⟨.staging ⟨i, record⟩ ⟨w, inside⟩, rfl, rfl⟩
  · exact ⟨.channelConfiguration ⟨i, record⟩ ⟨w, inside⟩, rfl, rfl⟩

theorem apertureWritable_apertureWord_iff {offset : Nat} (aligned : offset % 4 = 0) :
    apertureWritable (apertureWord offset) = true ↔ inRows writableRows offset := by
  constructor
  · intro writable
    obtain unused | stands := standsAt_apertureWord aligned
    · rw [unused] at writable
      exact Bool.noConfusion writable
    · exact stands ▸ inRows_writableRows_of_writable _ writable
  · intro row
    obtain ⟨word, writable, rfl⟩ := exists_writable_of_inRows row
    rw [apertureWord_offset]
    exact writable

end Sys2Proof.Machine

/-! ### What a written staging word reads back as (R172), and the pieces of aperture words -/

namespace Sys2Proof.Machine

theorem field_zero (low width : Nat) : field 0 low width = 0#32 := by
  simp [field]

/-! A field cut out of a word and shown at its own place is the word under the field's mask. -/

theorem field_extractLsb' (value : Word) (low width : Nat) :
    field (value.extractLsb' low width).toNat low width = value &&& field (2 ^ width - 1) low width := by
  refine BitVec.eq_of_getLsbD_eq fun i inside => ?_
  rw [BitVec.getLsbD_and, getLsbD_field, getLsbD_field, Nat.testBit_two_pow_sub_one, ← BitVec.getLsbD,
    BitVec.getLsbD_extractLsb']
  by_cases within : low ≤ i ∧ i < low + width
  · obtain ⟨above, below⟩ := within
    have offset : i - low < width := by omega
    simp [inside, above, below, offset, Nat.add_sub_cancel' above]
  · have outside : (decide (low ≤ i) && decide (i < low + width)) = false := by
      simpa using within
    simp [outside]

theorem flag_getLsbD (value : Word) (low : Nat) : flag (value.getLsbD low) low = value &&& field 1 low 1 := by
  have cut : (value.extractLsb' low 1).toNat = (value.getLsbD low).toNat := by
    rw [BitVec.extractLsb'_toNat, BitVec.getLsbD, Nat.toNat_testBit, Nat.shiftRight_eq_div_pow, Nat.pow_one]
  have digit : flag (value.getLsbD low) low = field (value.getLsbD low).toNat low 1 := by
    cases value.getLsbD low
    · exact (field_zero low 1).symm
    · rfl
  rw [digit, ← cut]
  exact field_extractLsb' value low 1

theorem regionEntryWord_writeWord_zero (e : RegionEntry) (value : Word) :
    regionEntryWord (e.writeWord 0 value) 0 = value &&& 0xE0FFFFFF#32 := by
  have confirm : ((if value.getLsbD 30 then WriteMode.confirm else .posted) == .confirm) = value.getLsbD 30 := by
    cases value.getLsbD 30 <;> rfl
  simp only [regionEntryWord, RegionEntry.writeWord]
  rw [confirm, field_extractLsb', flag_getLsbD, flag_getLsbD, flag_getLsbD, ← BitVec.and_or_distrib_left,
    ← BitVec.and_or_distrib_left, ← BitVec.and_or_distrib_left]
  rfl

theorem regionEntryWord_writeWord_one (e : RegionEntry) (value : Word) :
    regionEntryWord (e.writeWord 1 value) 1 =
      if 0x1000000 < value.toNat % 2 ^ 25 then 0x1000000#32 else value &&& 0x01FFFFFF#32 := by
  have count : (value.extractLsb' 0 25).toNat = value.toNat % 2 ^ 25 := BitVec.extractLsb'_toNat 0 25 value
  simp only [regionEntryWord, RegionEntry.writeWord, writtenPageCount]
  rw [count, show Config.pageCountMost.toNat = 0x1000000 from rfl]
  split
  · rfl
  · exact field_extractLsb' value 0 25

theorem regionEntryWord_writeWord_two (e : RegionEntry) (value : Word) :
    regionEntryWord (e.writeWord 2 value) 2 = value &&& 0x00FFFFFF#32 :=
  field_extractLsb' value 0 24

theorem regionEntryWord_writeWord_three (e : RegionEntry) (value : Word) :
    regionEntryWord (e.writeWord 3 value) 3 = value := by
  simp only [regionEntryWord, RegionEntry.writeWord]
  rw [field_extractLsb', field_extractLsb', ← BitVec.and_or_distrib_left]
  exact BitVec.and_allOnes

/-! ### Pieces of words -/

theorem showsFields_addressLow (a : Address) : showsFields (addressLow a) [(0, 32, a.toNat)] := by
  intro i
  rw [addressLow, BitVec.getLsbD_extractLsb', BitVec.getLsbD]
  simp

theorem showsFields_addressHigh (a : Address) : showsFields (addressHigh a) [(0, 4, a.toNat / 2 ^ 32)] := by
  intro i
  rw [addressHigh, BitVec.getLsbD_setWidth, BitVec.getLsbD_extractLsb', BitVec.getLsbD, ← Nat.shiftRight_eq_div_pow,
    List.any_cons, Nat.testBit_shiftRight]
  simp

/-- A flag shows whether an equation holds. -/
theorem showsFields_flag_beq {α : Type} [BEq α] [LawfulBEq α] [DecidableEq α] (x y : α) (low : Nat) :
    showsFields (flag (x == y) low) [(low, 1, if x = y then 1 else 0)] := by
  have shows := showsFields_flag (x == y) low
  by_cases same : x = y
  · rw [if_pos same]
    rwa [beq_iff_eq.mpr same] at shows ⊢
  · rw [if_neg same]
    rwa [beq_eq_false_iff_ne.mpr same] at shows ⊢

theorem showsFields_optionFin {n : Nat} (x : Option (Fin n)) (low width present : Nat) :
    showsFields (optionField (x.map Fin.val) low width present)
      [(low, width, shownFin x), (present, 1, x.isSome.toNat)] := by
  have shows := showsFields_optionField (x.map Fin.val) low width present
  rwa [Option.isSome_map] at shows

theorem showsFields_optionByte (x : Option Byte) (low width present : Nat) :
    showsFields (optionField (x.map BitVec.toNat) low width present)
      [(low, width, (x.getD 0#8).toNat), (present, 1, x.isSome.toNat)] := by
  have shows := showsFields_optionField (x.map BitVec.toNat) low width present
  rw [Option.isSome_map] at shows
  cases x <;> exact shows

theorem tagsHeldWord_eq (held : List (Fin 48)) :
    tagsHeldWord held = field (shownFin held[0]?) 0 6 ||| field (shownFin held[1]?) 8 6 |||
      field (shownFin held[2]?) 16 6 ||| field (shownFin held[3]?) 24 6 := by
  match held with
  | [] => simp [tagsHeldWord, shownFin, field_zero]
  | [a] => simp [tagsHeldWord, shownFin, field_zero]
  | [a, b] => simp [tagsHeldWord, shownFin, field_zero]
  | [a, b, c] => simp [tagsHeldWord, shownFin, field_zero]
  | a :: b :: c :: d :: rest => simp [tagsHeldWord, shownFin]

theorem showsFields_tagsHeldWord (held : List (Fin 48)) :
    showsFields (tagsHeldWord held) ((List.range 4).map (fun k => (8 * k, 6, shownFin held[k]?))) := by
  rw [tagsHeldWord_eq]
  exact showsFields_or (showsFields_or (showsFields_or (showsFields_field _ 0 6) (showsFields_field _ 8 6))
    (showsFields_field _ 16 6)) (showsFields_field _ 24 6)

end Sys2Proof.Machine

/-! ### The windows of the aperture, each word's fields (Tables 12-7 and 12-8) -/

namespace Sys2Proof.Machine

/-- A management read of an offset shows these fields. -/
def State.shows (s : State) (offset : Nat) (fields : List (Nat × Nat × Nat)) : Prop :=
  showsFields (s.readAt offset) fields

/-- A read at a word's offset returns that word. -/
theorem State.readAt_eq_of_offset (s : State) {offset : Nat} (word : ApertureWord) (stands : word.offset = offset) :
    s.readAt offset = s.readAperture word := by
  rw [State.readAt, ← stands, apertureWord_offset]

theorem State.shows_of_offset {s : State} {offset : Nat} {fields : List (Nat × Nat × Nat)} (word : ApertureWord)
    (stands : word.offset = offset) (shown : showsFields (s.readAperture word) fields) : s.shows offset fields := by
  rw [State.shows, s.readAt_eq_of_offset word stands]
  exact shown

theorem showsFields_commandStatusWord_zero (c : CommandStatus) :
    showsFields (commandStatusWord c 0)
      [(0, 1, c.busy.toNat), (1, 2, phaseCode c.phase), (8, 4, resultCode c.lastResult),
        (16, 8, (c.lastCommand.getD 0#8).toNat), (24, 1, c.lastCommand.isSome.toNat),
        (27, 1, c.lastIssuer.isSome.toNat), (28, 4, shownFin c.lastIssuer)] := by
  have issuer := showsFields_perm (List.Perm.swap _ _ _) (showsFields_optionFin c.lastIssuer 28 4 27)
  exact showsFields_or (showsFields_or (showsFields_or (showsFields_or (showsFields_flag _ 0) (showsFields_field _ 1 2))
    (showsFields_field _ 8 4)) (showsFields_optionByte c.lastCommand 16 8 24)) issuer

theorem State.shows_command (s : State) :
    s.shows 0x0000 [] ∧
    s.shows 0x0004 [(0, 1, s.command.busy.toNat), (1, 2, phaseCode s.command.phase),
      (8, 4, resultCode s.command.lastResult), (16, 8, (s.command.lastCommand.getD 0#8).toNat),
      (24, 1, s.command.lastCommand.isSome.toNat), (27, 1, s.command.lastIssuer.isSome.toNat),
      (28, 4, shownFin s.command.lastIssuer)] ∧
    s.shows 0x0008 [(0, 16, s.command.lastOperand.toNat)] ∧
    s.shows 0x000C [(0, 6, shownFin s.command.invalidEntry), (7, 1, s.command.invalidEntry.isSome.toNat),
      (8, 3, invalidCauseCode s.command.invalidCause), (16, 6, shownFin s.command.invalidOther),
      (23, 1, s.command.invalidOther.isSome.toNat)] :=
  ⟨State.shows_of_offset .command rfl showsFields_zero,
    State.shows_of_offset (.commandStatus 0) rfl (showsFields_commandStatusWord_zero _),
    State.shows_of_offset (.commandStatus 1) rfl (showsFields_field _ 0 16),
    State.shows_of_offset (.commandStatus 2) rfl
      (showsFields_or (showsFields_or (showsFields_optionFin _ 0 6 7) (showsFields_field _ 8 3))
        (showsFields_optionFin _ 16 6 23))⟩

theorem State.shows_configuration (s : State) :
    s.shows 0x0020 [(0, 2, modeCode s.mode)] ∧ s.shows 0x0030 [(0, 16, s.replyTimeout.toNat)] ∧
    s.shows 0x0040 [(0, 4, shownFin s.noticeRequester), (7, 1, s.noticeRequester.isSome.toNat),
      (8, 6, s.enabledCauses.toNat)] ∧
    s.shows 0x0044 [(0, 6, s.pendingCauses.toNat), (8, 1, s.armed.toNat)] :=
  ⟨State.shows_of_offset .gateMode rfl (showsFields_field _ 0 2),
    State.shows_of_offset .replyTimeout rfl (showsFields_field _ 0 16),
    State.shows_of_offset .noticeConfiguration rfl
      (showsFields_or (showsFields_optionFin _ 0 4 7) (showsFields_field _ 8 6)),
    State.shows_of_offset .noticeState rfl (showsFields_or (showsFields_field _ 0 6) (showsFields_flag _ 8))⟩

/-! #### The fault log -/

theorem State.shows_logHead_of_nil {s : State} (clear : s.faultLog = []) (w : Fin 6) :
    s.shows (0x0088 + 4 * w.val) [] := by
  refine State.shows_of_offset (.logHead w) rfl ?_
  rw [State.readAperture, logHeadWord, clear]
  exact showsFields_zero

theorem State.shows_logHead_of_cons {s : State} {head : FaultRecord} {rest : List FaultRecord}
    (oldest : s.faultLog = head :: rest) {w : Fin 6} {fields : List (Nat × Nat × Nat)}
    (shown : showsFields (faultRecordWord head w) fields) : s.shows (0x0088 + 4 * w.val) fields := by
  refine State.shows_of_offset (.logHead w) rfl ?_
  rw [State.readAperture, logHeadWord, oldest]
  exact shown

theorem showsFields_faultRecordWord_zero (head : FaultRecord) :
    showsFields (faultRecordWord head 0)
      [(0, 5, faultKindCode head.report.kind), (6, 2, faultPortCode head.report.port),
        (8, 4, shownFin head.report.requester), (12, 1, head.report.requester.isSome.toNat),
        (16, 6, shownFin head.report.region), (23, 1, head.report.region.isSome.toNat),
        (24, 6, shownFin head.report.tag), (30, 1, head.report.tag.isSome.toNat)] :=
  showsFields_or (showsFields_or (showsFields_or (showsFields_or (showsFields_field _ 0 5) (showsFields_field _ 6 2))
    (showsFields_optionFin _ 8 4 12)) (showsFields_optionFin _ 16 6 23)) (showsFields_optionFin _ 24 6 30)

theorem showsFields_detailWord_some (detail : Detail) :
    showsFields (detailWord (some detail)) [(0, 8, detailCode detail), (8, 6, detailOther detail), (31, 1, 1)] :=
  showsFields_or (showsFields_or (showsFields_field _ 0 8) (showsFields_field _ 8 6)) (showsFields_flag true 31)

theorem State.shows_logHead (s : State) (head : FaultRecord) (rest : List FaultRecord)
    (oldest : s.faultLog = head :: rest) :
    s.shows 0x0088 [(0, 5, faultKindCode head.report.kind), (6, 2, faultPortCode head.report.port),
      (8, 4, shownFin head.report.requester), (12, 1, head.report.requester.isSome.toNat),
      (16, 6, shownFin head.report.region), (23, 1, head.report.region.isSome.toNat),
      (24, 6, shownFin head.report.tag), (30, 1, head.report.tag.isSome.toNat)] ∧
    s.shows 0x008C [(0, 32, (head.report.address.getD 0#36).toNat)] ∧
    s.shows 0x0090 [(0, 4, (head.report.address.getD 0#36).toNat / 2 ^ 32),
      (31, 1, head.report.address.isSome.toNat)] ∧
    (head.report.detail = none → s.shows 0x0094 []) ∧
    (∀ detail, head.report.detail = some detail →
      s.shows 0x0094 [(0, 8, detailCode detail), (8, 6, detailOther detail), (31, 1, 1)]) ∧
    s.shows 0x0098 [(0, 32, head.firstTime.toNat)] ∧ s.shows 0x009C [(0, 16, head.repeatCount)] := by
  refine ⟨State.shows_logHead_of_cons (w := 0) oldest (showsFields_faultRecordWord_zero head),
    State.shows_logHead_of_cons (w := 1) oldest (showsFields_addressLow _),
    State.shows_logHead_of_cons (w := 2) oldest (showsFields_or (showsFields_addressHigh _) (showsFields_flag _ 31)),
    fun absent => State.shows_logHead_of_cons (w := 3) oldest ?_,
    fun detail present => State.shows_logHead_of_cons (w := 3) oldest ?_,
    State.shows_logHead_of_cons (w := 4) oldest (showsFields_word _),
    State.shows_logHead_of_cons (w := 5) oldest (showsFields_field _ 0 16)⟩
  · rw [faultRecordWord, absent]
    exact showsFields_zero
  · rw [faultRecordWord, present]
    exact showsFields_detailWord_some detail

/-! #### Requesters, totals and regions -/

theorem State.shows_requester (s : State) (q : Fin 16) :
    s.shows (0x0100 + 0x20 * q.val) [(0, 1, (s.requesters[q]).right.toNat), (8, 5, (s.requesters[q]).limit)] ∧
    s.shows (0x0100 + 0x20 * q.val + 0x04)
      [(0, 1, if (s.requesters[q]).state = .fenced then 1 else 0), (8, 5, (s.requesters[q]).outstanding)] ∧
    s.shows (0x0100 + 0x20 * q.val + 0x08) [(0, 32, (s.requesters[q]).admitted.toNat)] ∧
    s.shows (0x0100 + 0x20 * q.val + 0x0C) [(0, 32, (s.requesters[q]).refused.toNat)] ∧
    s.shows (0x0100 + 0x20 * q.val + 0x10) [(0, 32, (s.requesters[q]).retried.toNat)] :=
  ⟨State.shows_of_offset (.requester q 0) rfl (showsFields_or (showsFields_flag _ 0) (showsFields_field _ 8 5)),
    State.shows_of_offset (.requester q 1) rfl (showsFields_or (showsFields_flag_beq _ _ 0) (showsFields_field _ 8 5)),
    State.shows_of_offset (.requester q 2) rfl (showsFields_word _),
    State.shows_of_offset (.requester q 3) rfl (showsFields_word _),
    State.shows_of_offset (.requester q 4) rfl (showsFields_word _)⟩

theorem State.shows_totals (s : State) :
    s.shows 0x0400 [(0, 8, s.generation.toNat)] ∧ s.shows 0x0404 [(0, 16, s.currentTotal)] ∧
      s.shows 0x0408 [(0, 16, s.previousTotal)] :=
  ⟨State.shows_of_offset .generation rfl (showsFields_field _ 0 8),
    State.shows_of_offset .currentTotal rfl (showsFields_field _ 0 16),
    State.shows_of_offset .previousTotal rfl (showsFields_field _ 0 16)⟩

theorem showsFields_regionEntryWord_zero (e : RegionEntry) :
    showsFields (regionEntryWord e 0)
      [(0, 24, e.upstreamBase.toNat), (29, 1, e.digest.toNat), (30, 1, if e.mode = .confirm then 1 else 0),
        (31, 1, e.valid.toNat)] :=
  showsFields_or (showsFields_or (showsFields_or (showsFields_field _ 0 24) (showsFields_flag _ 29))
    (showsFields_flag_beq _ _ 30)) (showsFields_flag _ 31)

/-- The four words of a region entry from `base` on. -/
def State.showsEntry (s : State) (base : Nat) (e : RegionEntry) : Prop :=
  s.shows base [(0, 24, e.upstreamBase.toNat), (29, 1, e.digest.toNat), (30, 1, if e.mode = .confirm then 1 else 0),
    (31, 1, e.valid.toNat)] ∧
  s.shows (base + 0x04) [(0, 25, e.pageCount.toNat)] ∧ s.shows (base + 0x08) [(0, 24, e.downstreamBase.toNat)] ∧
  s.shows (base + 0x0C) [(0, 16, e.readSet.toNat), (16, 16, e.writeSet.toNat)]

theorem State.showsEntry_staging (s : State) (r : Fin 64) : s.showsEntry (0x1000 + 0x10 * r.val) s.staging[r] :=
  ⟨State.shows_of_offset (.staging r 0) rfl (showsFields_regionEntryWord_zero _),
    State.shows_of_offset (.staging r 1) rfl (showsFields_field _ 0 25),
    State.shows_of_offset (.staging r 2) rfl (showsFields_field _ 0 24),
    State.shows_of_offset (.staging r 3) rfl (showsFields_or (showsFields_field _ 0 16) (showsFields_field _ 16 16))⟩

theorem State.showsEntry_active (s : State) (r : Fin 64) : s.showsEntry (0x1800 + 0x10 * r.val) s.active[r] :=
  ⟨State.shows_of_offset (.active r 0) rfl (showsFields_regionEntryWord_zero _),
    State.shows_of_offset (.active r 1) rfl (showsFields_field _ 0 25),
    State.shows_of_offset (.active r 2) rfl (showsFields_field _ 0 24),
    State.shows_of_offset (.active r 3) rfl (showsFields_or (showsFields_field _ 0 16) (showsFields_field _ 16 16))⟩

theorem State.shows_regionStatus (s : State) (r : Fin 64) :
    s.shows (0x0500 + 4 * r.val) [(0, 2, runStateCode (s.regions[r]).runState), (8, 16, (s.regions[r]).inFlight)] :=
  State.shows_of_offset (.regionStatus r) rfl (showsFields_or (showsFields_field _ 0 2) (showsFields_field _ 8 16))

/-- The last writer of a digest: its number and its kind, both 0 without one. -/
theorem showsFields_digestWord_two (d : Digest) :
    (d.lastWriter = none → showsFields (digestWord d 2) []) ∧
    (∀ q, d.lastWriter = some (.requester q) → showsFields (digestWord d 2) [(0, 4, q.val), (8, 2, 1)]) ∧
    (∀ c, d.lastWriter = some (.channel c) → showsFields (digestWord d 2) [(0, 4, c.val), (8, 2, 2)]) := by
  refine ⟨fun absent => ?_, fun q writer => ?_, fun c writer => ?_⟩
  · simp only [digestWord, absent]
    exact showsFields_zero
  · simp only [digestWord, writer]
    exact showsFields_or (showsFields_field _ 0 4) (showsFields_field _ 8 2)
  · simp only [digestWord, writer]
    exact showsFields_or (showsFields_field _ 0 4) (showsFields_field _ 8 2)

theorem State.shows_digest (s : State) (r : Fin 64) :
    s.shows (0x0800 + 0x10 * r.val) [(0, 32, (s.digests[r]).sum.toNat)] ∧
    s.shows (0x0804 + 0x10 * r.val) [(0, 32, (s.digests[r]).wordCount.toNat)] ∧
    ((s.digests[r]).lastWriter = none → s.shows (0x0808 + 0x10 * r.val) []) ∧
    (∀ q, (s.digests[r]).lastWriter = some (.requester q) →
      s.shows (0x0808 + 0x10 * r.val) [(0, 4, q.val), (8, 2, 1)]) ∧
    (∀ c, (s.digests[r]).lastWriter = some (.channel c) →
      s.shows (0x0808 + 0x10 * r.val) [(0, 4, c.val), (8, 2, 2)]) := by
  have stands (w : Fin 3) : (ApertureWord.digest r w).offset = 0x0800 + 4 * w.val + 0x10 * r.val :=
    Nat.add_right_comm _ _ _
  obtain ⟨absent, byRequester, byChannel⟩ := showsFields_digestWord_two s.digests[r]
  exact ⟨State.shows_of_offset (.digest r 0) (stands 0) (showsFields_word _),
    State.shows_of_offset (.digest r 1) (stands 1) (showsFields_word _),
    fun writer => State.shows_of_offset (.digest r 2) (stands 2) (absent writer),
    fun q writer => State.shows_of_offset (.digest r 2) (stands 2) (byRequester q writer),
    fun c writer => State.shows_of_offset (.digest r 2) (stands 2) (byChannel c writer)⟩

/-! #### Tags and channels -/

theorem showsFields_tagWord_zero (r : TagRecord) :
    showsFields (tagWord r 0)
      [(0, 3, tagStateCode r.state), (4, 2, tagOwnerCode r.owner), (8, 4, r.ownerRequester.val),
        (12, 8, r.upstreamTag.toNat), (20, 1, r.ownerChannel.val), (21, 1, if r.kind = .cw then 1 else 0),
        (24, 5, r.wordCount)] :=
  showsFields_or (showsFields_or (showsFields_or (showsFields_or (showsFields_or (showsFields_or
    (showsFields_field _ 0 3) (showsFields_field _ 4 2)) (showsFields_field _ 8 4)) (showsFields_field _ 12 8))
    (showsFields_field _ 20 1)) (showsFields_flag_beq _ _ 21)) (showsFields_field _ 24 5)

theorem State.shows_tag (s : State) (t : Fin 48) :
    s.shows (0x2100 + 0x10 * t.val)
      [(0, 3, tagStateCode (s.tags[t]).state), (4, 2, tagOwnerCode (s.tags[t]).owner),
        (8, 4, (s.tags[t]).ownerRequester.val), (12, 8, (s.tags[t]).upstreamTag.toNat),
        (20, 1, (s.tags[t]).ownerChannel.val), (21, 1, if (s.tags[t]).kind = .cw then 1 else 0),
        (24, 5, (s.tags[t]).wordCount)] ∧
    s.shows (0x2100 + 0x10 * t.val + 0x04)
      [(0, 6, (s.tags[t]).index.val), (8, 8, (s.tags[t]).generation.toNat),
        (31, 1, (s.tags[t]).deadline.isSome.toNat)] ∧
    s.shows (0x2100 + 0x10 * t.val + 0x08) [(0, 32, ((s.tags[t]).deadline.getD 0#32).toNat)] :=
  ⟨State.shows_of_offset (.tag t 0) rfl (showsFields_tagWord_zero _),
    State.shows_of_offset (.tag t 1) rfl
      (showsFields_or (showsFields_or (showsFields_field _ 0 6) (showsFields_field _ 8 8)) (showsFields_flag _ 31)),
    State.shows_of_offset (.tag t 2) rfl (showsFields_word _)⟩

theorem State.shows_channelConfiguration (s : State) (c : Fin 2) :
    s.shows (0x3000 + 0x40 * c.val) [(0, 4, (s.channels[c]).owner.val), (8, 1, (s.channels[c]).notifyOnHalt.toNat)] ∧
    s.shows (0x3004 + 0x40 * c.val) [(0, 32, (s.channels[c]).firstDescriptor.toNat)] ∧
    s.shows (0x3008 + 0x40 * c.val) [(0, 4, (s.channels[c]).firstDescriptor.toNat / 2 ^ 32)] := by
  have stands (w : Fin 3) : (ApertureWord.channelConfiguration c w).offset = 0x3000 + 4 * w.val + 0x40 * c.val :=
    Nat.add_right_comm _ _ _
  exact ⟨State.shows_of_offset (.channelConfiguration c 0) (stands 0)
      (showsFields_or (showsFields_field _ 0 4) (showsFields_flag _ 8)),
    State.shows_of_offset (.channelConfiguration c 1) (stands 1) (showsFields_addressLow _),
    State.shows_of_offset (.channelConfiguration c 2) (stands 2) (showsFields_addressHigh _)⟩

theorem showsFields_channelStatusWord_zero (ch : Channel) :
    showsFields (channelStatusWord ch 0)
      [(0, 3, channelStateCode ch.state), (8, 3, haltCauseCode ch.haltCause), (16, 6, shownFin ch.haltIndex),
        (23, 1, ch.haltIndex.isSome.toNat), (24, 1, ch.descriptor.isSome.toNat), (25, 1, ch.haltAddress.isSome.toNat),
        (28, 3, ch.tagsHeld.length)] :=
  showsFields_or (showsFields_or (showsFields_or (showsFields_or (showsFields_or (showsFields_field _ 0 3)
    (showsFields_field _ 8 3)) (showsFields_optionFin _ 16 6 23)) (showsFields_flag _ 24)) (showsFields_flag _ 25))
    (showsFields_field _ 28 3)

theorem State.shows_channelStatus (s : State) (c : Fin 2) :
    let ch := s.channels[c]
    let base := 0x3100 + 0x80 * c.val
    s.shows base [(0, 3, channelStateCode ch.state), (8, 3, haltCauseCode ch.haltCause),
      (16, 6, shownFin ch.haltIndex), (23, 1, ch.haltIndex.isSome.toNat), (24, 1, ch.descriptor.isSome.toNat),
      (25, 1, ch.haltAddress.isSome.toNat), (28, 3, ch.tagsHeld.length)] ∧
    s.shows (base + 0x04) [(0, 32, ch.currentAddress.toNat)] ∧
    s.shows (base + 0x08) [(0, 4, ch.currentAddress.toNat / 2 ^ 32)] ∧
    s.shows (base + 0x0C) [(0, 17, ch.wordsRemaining)] ∧ s.shows (base + 0x10) [(0, 32, ch.completed.toNat)] ∧
    s.shows (base + 0x14) [(0, 32, ch.scanSum.toNat)] ∧ s.shows (base + 0x18) [(0, 32, ch.scanCount.toNat)] ∧
    s.shows (base + 0x1C) [(0, 32, (ch.haltAddress.getD 0#36).toNat)] ∧
    s.shows (base + 0x20) [(0, 4, (ch.haltAddress.getD 0#36).toNat / 2 ^ 32)] ∧
    s.shows (base + 0x24) ((List.range 4).map (fun k => (8 * k, 6, shownFin ch.tagsHeld[k]?))) :=
  ⟨State.shows_of_offset (.channelStatus c 0) rfl (showsFields_channelStatusWord_zero _),
    State.shows_of_offset (.channelStatus c 1) rfl (showsFields_addressLow _),
    State.shows_of_offset (.channelStatus c 2) rfl (showsFields_addressHigh _),
    State.shows_of_offset (.channelStatus c 3) rfl (showsFields_field _ 0 17),
    State.shows_of_offset (.channelStatus c 4) rfl (showsFields_word _),
    State.shows_of_offset (.channelStatus c 5) rfl (showsFields_word _),
    State.shows_of_offset (.channelStatus c 6) rfl (showsFields_word _),
    State.shows_of_offset (.channelStatus c 7) rfl (showsFields_addressLow _),
    State.shows_of_offset (.channelStatus c 8) rfl (showsFields_addressHigh _),
    State.shows_of_offset (.channelStatus c 9) rfl (showsFields_tagsHeldWord _)⟩

theorem offset_channelDescriptor (c : Fin 2) (w : Fin 8) :
    (ApertureWord.channelDescriptor c w).offset = 0x3100 + 0x80 * c.val + 0x40 + 4 * w.val := by
  dsimp only [ApertureWord.offset]
  omega

theorem State.shows_channelDescriptor_of_none {s : State} {c : Fin 2} (absent : (s.channels[c]).descriptor = none)
    (w : Fin 8) : s.shows (0x3100 + 0x80 * c.val + 0x40 + 4 * w.val) [] := by
  refine State.shows_of_offset (.channelDescriptor c w) (offset_channelDescriptor c w) ?_
  rw [State.readAperture, channelDescriptorWord, absent]
  exact showsFields_zero

theorem State.readAt_channelDescriptor_of_some {s : State} {c : Fin 2} {d : Descriptor}
    (present : (s.channels[c]).descriptor = some d) (w : Fin 8) :
    s.readAt (0x3100 + 0x80 * c.val + 0x40 + 4 * w.val) = d.words.getD w.val 0#32 := by
  rw [s.readAt_eq_of_offset (.channelDescriptor c w) (offset_channelDescriptor c w), State.readAperture,
    channelDescriptorWord, present]

/-! #### Ports and queues -/

theorem State.shows_portStatus (s : State) (p : Port) :
    let l := s.port p
    s.shows (portBase p) [(0, 1, if l.state = .up then 1 else 0), (1, 1, l.withholds.toNat), (8, 7, l.advertised),
      (16, 3, l.retryRun), (19, 1, l.replay.isSome.toNat)] ∧
    s.shows (portBase p + 0x04) [(0, 7, l.peerCredit), (8, 7, l.peerCeiling), (16, 5, l.allowance),
      (24, 5, l.owedCredit)] ∧
    s.shows (portBase p + 0x08) [(0, 7, l.nextSeq.toNat), (8, 7, l.expectedSeq.toNat),
      (16, 5, l.replayStore.length), (24, 5, l.inbound.length)] :=
  ⟨State.shows_of_offset (.portStatus p 0) rfl
      (showsFields_or (showsFields_or (showsFields_or (showsFields_or (showsFields_flag_beq _ _ 0)
        (showsFields_flag _ 1)) (showsFields_field _ 8 7)) (showsFields_field _ 16 3)) (showsFields_flag _ 19)),
    State.shows_of_offset (.portStatus p 1) rfl
      (showsFields_or (showsFields_or (showsFields_or (showsFields_field _ 0 7) (showsFields_field _ 8 7))
        (showsFields_field _ 16 5)) (showsFields_field _ 24 5)),
    State.shows_of_offset (.portStatus p 2) rfl
      (showsFields_or (showsFields_or (showsFields_or (showsFields_field _ 0 7) (showsFields_field _ 8 7))
        (showsFields_field _ 16 5)) (showsFields_field _ 24 5))⟩

theorem State.readAt_counters (s : State) (p : Port) :
    let counters := (s.port p).counters
    s.readAt (portBase p + 0x10) = counters.unitsSent ∧ s.readAt (portBase p + 0x14) = counters.unitsResent ∧
    s.readAt (portBase p + 0x18) = counters.replays ∧ s.readAt (portBase p + 0x1C) = counters.unitsAccepted ∧
    s.readAt (portBase p + 0x20) = counters.badUnits ∧ s.readAt (portBase p + 0x24) = counters.gapUnits ∧
    s.readAt (portBase p + 0x28) = counters.duplicateUnits ∧ s.readAt (portBase p + 0x2C) = counters.earlyUnits ∧
    s.readAt (portBase p + 0x30) = counters.badSymbols ∧ s.readAt (portBase p + 0x34) = counters.linkLosses :=
  ⟨s.readAt_eq_of_offset (.portStatus p 4) rfl, s.readAt_eq_of_offset (.portStatus p 5) rfl,
    s.readAt_eq_of_offset (.portStatus p 6) rfl, s.readAt_eq_of_offset (.portStatus p 7) rfl,
    s.readAt_eq_of_offset (.portStatus p 8) rfl, s.readAt_eq_of_offset (.portStatus p 9) rfl,
    s.readAt_eq_of_offset (.portStatus p 10) rfl, s.readAt_eq_of_offset (.portStatus p 11) rfl,
    s.readAt_eq_of_offset (.portStatus p 12) rfl, s.readAt_eq_of_offset (.portStatus p 13) rfl⟩

theorem State.shows_queues (s : State) :
    s.shows 0x400C [(0, 6, s.replyQueue.length)] ∧ s.readAt 0x4038 = s.discardedReplies ∧
    s.shows 0x410C [(0, 6, s.issueQueue.length), (8, 2, candidateCode s.lastGranted),
      (12, 1, (s.offer .channel0).isSome.toNat), (13, 1, (s.offer .channel1).isSome.toNat)] ∧
    s.readAt 0x4138 = 0#32 := by
  refine ⟨State.shows_of_offset (.portStatus .u 3) rfl (showsFields_field _ 0 6),
    s.readAt_eq_of_offset (.portStatus .u 14) rfl, State.shows_of_offset (.portStatus .d 3) rfl ?_,
    s.readAt_eq_of_offset (.portStatus .d 14) rfl⟩
  rw [← s.candidatePresent_eq, ← s.candidatePresent_eq]
  exact showsFields_or (showsFields_or (showsFields_or (showsFields_field _ 0 6) (showsFields_field _ 8 2))
    (showsFields_flag _ 12)) (showsFields_flag _ 13)

end Sys2Proof.Machine

/-! ### O60: the aperture, as a management read shows it -/

namespace Sys2Proof.Machine

theorem State.readAt_eq_zero_of_not_inRows (s : State) {offset : Nat} (aligned : offset % 4 = 0)
    (outside : ¬inRows apertureRows offset) : s.readAt offset = 0#32 := by
  rw [State.readAt, apertureWord_eq_unused aligned outside]
  rfl

/-- Settles O60: each window is read off the pieces of its words, and the map is inverted by the offset of a word. -/
theorem apertureWordsShowTheirFields : Obligations.ApertureWordsShowTheirFields := by
  refine ⟨fun _ => apertureWord_eq_unused, fun _ => apertureWritable_apertureWord_iff, fun e w value => ?masks,
    ⟨rfl, rfl, rfl, rfl, rfl, rfl, rfl, rfl, rfl, rfl, rfl, rfl, rfl, rfl, fun _ => rfl, fun _ => rfl, fun _ _ => rfl⟩,
    fun s => ?windows, fun s _ => s.readAt_eq_zero_of_not_inRows⟩
  case masks =>
    match w with
    | 0 => exact regionEntryWord_writeWord_zero e value
    | 1 => exact regionEntryWord_writeWord_one e value
    | 2 => exact regionEntryWord_writeWord_two e value
    | 3 => exact regionEntryWord_writeWord_three e value
  intro shows command
  refine ⟨s.shows_command, s.shows_configuration, ?log, s.shows_requester, s.shows_totals, fun r => ?region, ?free,
    s.shows_tag, fun c => ?channel, fun p => ?port, s.shows_queues⟩
  case log =>
    exact ⟨State.shows_of_offset .logCount rfl (showsFields_field _ 0 6),
      State.shows_of_offset .lostCount rfl (showsFields_field _ 0 16), State.shows_logHead_of_nil, s.shows_logHead⟩
  case region =>
    obtain ⟨sum, wordCount, absent, byRequester, byChannel⟩ := s.shows_digest r
    exact ⟨s.shows_regionStatus r, sum, wordCount, absent, byRequester, byChannel, s.showsEntry_staging r,
      s.showsEntry_active r⟩
  case free => exact State.shows_of_offset .freeTagCount rfl (showsFields_field _ 0 6)
  case channel =>
    obtain ⟨owner, low, high⟩ := s.shows_channelConfiguration c
    obtain ⟨status, currentLow, currentHigh, remaining, completed, scanSum, scanCount, haltLow, haltHigh, held⟩ :=
      s.shows_channelStatus c
    refine ⟨owner, low, high, status, currentLow, currentHigh, remaining, completed, scanSum, scanCount, haltLow,
      haltHigh, held, State.shows_channelDescriptor_of_none, fun d present => ?_⟩
    have word := State.readAt_channelDescriptor_of_some present
    exact ⟨word 0, word 1, word 2, word 3, word 4, word 5, word 6, word 7⟩
  case port =>
    obtain ⟨status, credit, sequence⟩ := s.shows_portStatus p
    exact ⟨status, credit, sequence, s.readAt_counters p⟩

end Sys2Proof.Machine
